-- ==== Sys2Proof/Word.lean ====
section
/-!
DEFINITION. The word types of I2CM (R6, R9): bytes, 7-bit device addresses, 32-bit command and response words.
Bit 0 is the least significant bit of every one of them.
-/

namespace Sys2Proof

/-- Every byte moved in one phase (`DATA_BITS` = 8, R6). -/
abbrev Byte := BitVec 8

/-- A device address (`DEV_ADDR_BITS` = 7, R6). -/
abbrev Addr7 := BitVec 7

/-- A command word or a response word (R85, R92). -/
abbrev Word := BitVec 32

end Sys2Proof
end

