-- ==== Sys2Proof/Config.lean ====
section
/-!
DEFINITION. The parameters of R6, and every value the spec leaves open as an opaque constant: nothing in Lean can
evaluate one, so a theorem holds whatever the value is.
-/

namespace Sys2Proof.Config

/-- The two parameters that have a value in the source but are unaudited (R6, U9): fields with the source's defaults. -/
structure Params where
  /-- `POLL_LIMIT`: samples of the awaited flag per phase before `Timeout`. -/
  pollLimit : Nat := 250
  /-- `T_POLL_US`: microseconds waited after each failed sample. -/
  tPollUs : Nat := 25
  deriving DecidableEq, Repr

/-- The parameters of this machine: the defaults (log 9). -/
def params : Params := {}

/-- `POLL_LIMIT` (R6). -/
def pollLimit : Nat := params.pollLimit

/-- `T_POLL_US` (R6). -/
def tPollUs : Nat := params.tPollUs

/-- `BUDGET_US` = `POLL_LIMIT * T_POLL_US`, the ceiling per phase (R6, R123). -/
def budgetUs : Nat := pollLimit * tPollUs

/-- `MAX_LEN`: the largest length of a register read (R6). -/
def maxLen : Nat := 255

/-- `RXBUF_SIZE`, equal to `MAX_LEN` (R6). -/
abbrev rxbufSize : Nat := 255

/-- `DIV_INIT`, OPEN (R6, R30, U10): the divisor `INIT` writes. -/
opaque divInit : Byte

/-- `F_SCL_HZ`, OPEN (R6, U10): the fixed target rate of the bus clock. No rule reads it. -/
opaque fSclHz : Nat

/-- `CLK_HZ`, OPEN (R6, U10): the block's own clock. No rule reads it. -/
opaque clkHz : Nat

/-- `SENSOR_ADDR`, OPEN (R6, R101): the device the two pseudo-commands name. -/
opaque sensorAddr : Addr7

/-- The poll timer of R205 in cycles of the block's clock. -/
def pollTimerCycles : Nat := tPollUs * clkHz / 1000000

/-- One answer of the environment to one phase, as raw data (R78; log 1). `delay` is the number of failed samples
before the awaited flag is seen, `none` for never. `code` is STATUS bits 7:3 (R28), so the code the Engine reads is
always a multiple of 8. `data` is the byte that arrives in a receive phase. Every value is an admissible answer to every
phase: a stop phase uses `delay` alone, and a delay of `POLL_LIMIT` or more is a completion the poll does not see. -/
structure Answer where
  delay : Option Nat
  code : BitVec 5
  data : Byte
  deriving DecidableEq, Repr, Inhabited

/-- FREE VALUE (R78, U6; log 1): the environment's answer number `n` where the script `State.env` gives none. -/
opaque freeAnswer : Nat → Answer

/-- FREE VALUE (R45, U2; log 3): STATUS bits 7:3 after the reset that found the draw counter at `n`. -/
opaque resetStatus : Nat → BitVec 5

/-- FREE VALUE (R45, U2; log 3): DATA after a reset. -/
opaque resetData : Nat → Byte

/-- FREE VALUE (R45, U2; log 3): CMDR after a reset. -/
opaque resetCmdr : Nat → Word

/-- FREE VALUE (R45, U2; log 3): RSP after a reset. -/
opaque resetRsp : Nat → Word

/-- FREE VALUE (R45, U2; log 3): entry `i` of RXBUF after power-on. -/
opaque resetRxbuf : Nat → Byte

/-- FREE VALUE (R44, U3; log 13): what `rxbuf_data` shows for the index 255, which names no entry; `n` is the draw
counter. -/
opaque rxbufOutOfRange : Nat → Byte

end Sys2Proof.Config
end

