-- ==== Sys2Proof/Syntax.lean ====
section
/-!
DEFINITION. The nine commands of R87, one constructor each; the pseudo-commands of R101 and the written forms of R100.
-/

namespace Sys2Proof

/-- The direction of an address phase (R11): `write` is readBit 0, `read` is readBit 1. -/
inductive Dir where
  | write
  | read
  deriving DecidableEq, Repr

/-- The bit that stands for a direction (R85, R90): 0 write, 1 read. -/
def Dir.bit : Dir → BitVec 1
  | .write => 0#1
  | .read => 1#1

/-- The direction a bit stands for. -/
def Dir.ofBit (b : BitVec 1) : Dir :=
  if b = 1#1 then .read else .write

/-- The commands of I2CM (R87). -/
inductive Instr where
  | init
  | start
  | stop
  | sendAddress (dev : Addr7) (rw : Dir)
  | writeByte (val : Byte)
  | readByteAck
  | readByteNack
  | writeRegister (dev : Addr7) (reg : Byte) (val : Byte)
  | readRegister (dev : Addr7) (reg : Byte) (len : Byte)
  deriving DecidableEq, Repr

/-- The pseudo-command `readRawRegister(reg, length)` (R101). -/
def Instr.readRawRegister (reg len : Byte) : Instr := .readRegister Config.sensorAddr reg len

/-- The pseudo-command `writeRawRegister(reg, value)` (R101). -/
def Instr.writeRawRegister (reg val : Byte) : Instr := .writeRegister Config.sensorAddr reg val

/-- The mnemonic of a command (R87). -/
def Instr.mnemonic : Instr → String
  | .init => "INIT"
  | .start => "START"
  | .stop => "STOP"
  | .sendAddress _ _ => "SEND_ADDRESS"
  | .writeByte _ => "WRITE_BYTE"
  | .readByteAck => "READ_BYTE_ACK"
  | .readByteNack => "READ_BYTE_NACK"
  | .writeRegister _ _ _ => "WRITE_REGISTER"
  | .readRegister _ _ _ => "READ_REGISTER"

/-- A number in the hexadecimal notation of R9. -/
def hexText (n : Nat) : String := "0x" ++ String.ofList (Nat.toDigits 16 n)

/-- The direction operand of R100: `W` or `R`. -/
def Dir.text : Dir → String
  | .write => "W"
  | .read => "R"

/-- The written form of R100: the mnemonic and the operands in the source's order, separated by commas. -/
def Instr.written (i : Instr) : String :=
  match i with
  | .sendAddress dev rw => i.mnemonic ++ " " ++ hexText dev.toNat ++ ", " ++ rw.text
  | .writeByte val => i.mnemonic ++ " " ++ hexText val.toNat
  | .writeRegister dev reg val =>
    i.mnemonic ++ " " ++ hexText dev.toNat ++ ", " ++ hexText reg.toNat ++ ", " ++ hexText val.toNat
  | .readRegister dev reg len =>
    i.mnemonic ++ " " ++ hexText dev.toNat ++ ", " ++ hexText reg.toNat ++ ", " ++ toString len.toNat
  | _ => i.mnemonic

end Sys2Proof
end

