-- ==== Sys2Proof/WellFormed.lean ====
section
/-!
DEFINITION. Well-formed commands: the widths of R85 are in the types, and the one further check is that a register read
has a length of 1 to `MAX_LEN` (R88, R91).
-/

namespace Sys2Proof

/-- The length of a register read: 1 to `MAX_LEN` = 255, zero illegal (R91). -/
def lenOk (len : Byte) : Bool := len != 0#8

/-- The check of R88 that the types do not make. -/
def Instr.wf : Instr → Bool
  | .readRegister _ _ len => lenOk len
  | .init => true
  | .start => true
  | .stop => true
  | .sendAddress _ _ => true
  | .writeByte _ => true
  | .readByteAck => true
  | .readByteNack => true
  | .writeRegister _ _ _ => true

end Sys2Proof
end

