-- ==== Sys2Proof/Decode.lean ====
section
/-!
DEFINITION. The decoder, total on every 32-bit word (R85 to R91), and after it the encoder written from the same
encoding table, and the table's match and mask (R87).
-/

namespace Sys2Proof

/-- The fields of a command word (R85), reserved bits included. -/
structure Fields where
  op : BitVec 4
  rsvA : BitVec 3
  rw : BitVec 1
  rsvB : BitVec 1
  dev : Addr7
  reg : Byte
  val : Byte
  deriving DecidableEq, Repr

/-- The fields of a word: OP 31:28, reserved 27:25, RW 24, reserved 23, DEV 22:16, REG 15:8, VAL 7:0 (R85). -/
def Fields.split (w : Word) : Fields :=
  { op := w.extractLsb' 28 4
    rsvA := w.extractLsb' 25 3
    rw := w.extractLsb' 24 1
    rsvB := w.extractLsb' 23 1
    dev := w.extractLsb' 16 7
    reg := w.extractLsb' 8 8
    val := w.extractLsb' 0 8 }

/-- The word that holds given fields (R85). -/
def Fields.join (f : Fields) : Word :=
  f.op ++ f.rsvA ++ f.rw ++ f.rsvB ++ f.dev ++ f.reg ++ f.val

/-- Why a word is illegal (R88). -/
inductive Reject where
  /-- OP is `0x0` or `0xA` to `0xF`. -/
  | undefinedOp
  /-- A reserved bit, or a field the command does not use, is not 0. -/
  | unusedField
  /-- `READ_REGISTER` with `LEN` = 0. -/
  | zeroLength
  deriving DecidableEq, Repr

/-- The reason code of a refused word (R89). -/
def Reject.reason : Reject → Byte
  | .undefinedOp => 0x01#8
  | .unusedField => 0x02#8
  | .zeroLength => 0x03#8

/-- The nine values of OP that select a command (R87). -/
def opDefined (op : BitVec 4) : Bool := 1#4 ≤ op && op ≤ 9#4

/-- The commands that use RW (R86). -/
def usesRw (op : BitVec 4) : Bool := op == 4#4

/-- The commands that use DEV (R86). -/
def usesDev (op : BitVec 4) : Bool := op == 4#4 || op == 8#4 || op == 9#4

/-- The commands that use REG (R86). -/
def usesReg (op : BitVec 4) : Bool := op == 8#4 || op == 9#4

/-- The commands that use VAL (R86). -/
def usesVal (op : BitVec 4) : Bool := op == 5#4 || op == 8#4 || op == 9#4

/-- Every reserved bit and every field the command does not use is 0 (R86, R88). -/
def unusedClear (f : Fields) : Bool :=
  f.rsvA == 0#3 && f.rsvB == 0#1 && (usesRw f.op || f.rw == 0#1) && (usesDev f.op || f.dev == 0#7)
    && (usesReg f.op || f.reg == 0#8) && (usesVal f.op || f.val == 0#8)

/-- The command an OP selects, with its operands (R86, R87); called on defined values of OP only. -/
def assemble (f : Fields) : Instr :=
  if f.op = 1#4 then .init
  else if f.op = 2#4 then .start
  else if f.op = 3#4 then .stop
  else if f.op = 4#4 then .sendAddress f.dev (Dir.ofBit f.rw)
  else if f.op = 5#4 then .writeByte f.val
  else if f.op = 6#4 then .readByteAck
  else if f.op = 7#4 then .readByteNack
  else if f.op = 8#4 then .writeRegister f.dev f.reg f.val
  else .readRegister f.dev f.reg f.val

/-- The three checks in the order of R89, then the command. -/
def decodeFields (f : Fields) : Except Reject Instr :=
  if !opDefined f.op then .error .undefinedOp
  else if !unusedClear f then .error .unusedField
  else if f.op == 9#4 && !lenOk f.val then .error .zeroLength
  else .ok (assemble f)

/-- The decoder: a command, or the name of what is wrong with the word. -/
def decode (w : Word) : Except Reject Instr := decodeFields (Fields.split w)

/-- The instruction the decoder reads from a row's word of `nbits` bits, numbered as the opcode table numbers them. A
command is one 32-bit word (R85), so there is no later word and no byte order to choose. -/
def decodeTableWord (nbits w : Nat) : Option Instr :=
  match decode (BitVec.ofNat 32 (w % 2 ^ nbits)) with
  | .ok i => some i
  | .error _ => none

/-! ### The encoder -/

/-- The OP of a command (R87). -/
def opOf : Instr → BitVec 4
  | .init => 0x1#4
  | .start => 0x2#4
  | .stop => 0x3#4
  | .sendAddress _ _ => 0x4#4
  | .writeByte _ => 0x5#4
  | .readByteAck => 0x6#4
  | .readByteNack => 0x7#4
  | .writeRegister _ _ _ => 0x8#4
  | .readRegister _ _ _ => 0x9#4

/-- The fields of a command: its OP, its operands, and 0 in every field it does not use (R86, R87). -/
def fieldsOf (i : Instr) : Fields :=
  match i with
  | .sendAddress dev rw => { op := opOf i, rsvA := 0, rw := rw.bit, rsvB := 0, dev := dev, reg := 0, val := 0 }
  | .writeByte val => { op := opOf i, rsvA := 0, rw := 0, rsvB := 0, dev := 0, reg := 0, val := val }
  | .writeRegister dev reg val => { op := opOf i, rsvA := 0, rw := 0, rsvB := 0, dev := dev, reg := reg, val := val }
  | .readRegister dev reg len => { op := opOf i, rsvA := 0, rw := 0, rsvB := 0, dev := dev, reg := reg, val := len }
  | .init => { op := opOf i, rsvA := 0, rw := 0, rsvB := 0, dev := 0, reg := 0, val := 0 }
  | .start => { op := opOf i, rsvA := 0, rw := 0, rsvB := 0, dev := 0, reg := 0, val := 0 }
  | .stop => { op := opOf i, rsvA := 0, rw := 0, rsvB := 0, dev := 0, reg := 0, val := 0 }
  | .readByteAck => { op := opOf i, rsvA := 0, rw := 0, rsvB := 0, dev := 0, reg := 0, val := 0 }
  | .readByteNack => { op := opOf i, rsvA := 0, rw := 0, rsvB := 0, dev := 0, reg := 0, val := 0 }

/-- The word of a command (R87, R100). -/
def encode (i : Instr) : Word := (fieldsOf i).join

/-- A row of the opcode map of R87. -/
structure OpcodeRow where
  mtch : Word
  mask : Word
  deriving DecidableEq, Repr

/-- The row of the opcode map that a command belongs to (R87, opcode_table.json). -/
def opcodeRow : Instr → OpcodeRow
  | .init => { mtch := 0x10000000#32, mask := 0xFFFFFFFF#32 }
  | .start => { mtch := 0x20000000#32, mask := 0xFFFFFFFF#32 }
  | .stop => { mtch := 0x30000000#32, mask := 0xFFFFFFFF#32 }
  | .sendAddress _ _ => { mtch := 0x40000000#32, mask := 0xFE80FFFF#32 }
  | .writeByte _ => { mtch := 0x50000000#32, mask := 0xFFFFFF00#32 }
  | .readByteAck => { mtch := 0x60000000#32, mask := 0xFFFFFFFF#32 }
  | .readByteNack => { mtch := 0x70000000#32, mask := 0xFFFFFFFF#32 }
  | .writeRegister _ _ _ => { mtch := 0x80000000#32, mask := 0xFF800000#32 }
  | .readRegister _ _ _ => { mtch := 0x90000000#32, mask := 0xFF800000#32 }

/-- The opcode map of R87 as a list, in the table's order. -/
def opcodeMap : List OpcodeRow :=
  [opcodeRow .init, opcodeRow .start, opcodeRow .stop, opcodeRow (.sendAddress 0 .write), opcodeRow (.writeByte 0),
    opcodeRow .readByteAck, opcodeRow .readByteNack, opcodeRow (.writeRegister 0 0 0), opcodeRow (.readRegister 0 0 0)]

/-- A word is in a row when `w & mask == match` (R87). -/
def OpcodeRow.holds (r : OpcodeRow) (w : Word) : Bool := w &&& r.mask == r.mtch

end Sys2Proof
end

