-- ==== Sys2Proof/Machine/Types.lean ====
section
/-!
DEFINITION. The types of R11, R21, R34, R38, R92, R120 and R121: what the state of I2CM is made of.
-/

namespace Sys2Proof.Machine

/-- The result of an Engine operation (R11, R40). -/
inductive BusOutcome where
  | ok
  | timeout
  | hardwareStatus (code : Byte)
  deriving DecidableEq, Repr

/-- What a command is answered with (R11, R93): a BusOutcome, or a refusal of the word, which is not one. -/
inductive Response where
  | outcome (o : BusOutcome)
  | refused (reason : Byte)
  deriving DecidableEq, Repr

/-- One phase, that is one bus event (R11, R66). -/
inductive Phase where
  /-- A start or repeated start condition. -/
  | start
  /-- A stop condition. -/
  | stop
  /-- The address byte `b` and the addressed device's acknowledge bit. -/
  | addr (b : Byte)
  /-- The data byte `b` sent by the master and the device's acknowledge bit. -/
  | tx (b : Byte)
  /-- A byte sent by the device, answered with acknowledge or not. -/
  | rx (ack : Bool)
  deriving DecidableEq, Repr

/-- The class of a status (R11, R94). -/
inductive StatusClass where
  | startSent
  | repStartSent
  | addrAck (d : Dir)
  | addrNack (d : Dir)
  | dataTxAck
  | dataTxNack
  | dataRxAck
  | dataRxNack
  | arbLost
  | other
  deriving DecidableEq, Repr

/-- The environment's answer to a phase (R11, R78). -/
inductive PhaseResult where
  /-- Sample number `k` of `CTRL.DONE` is the first to read 1. -/
  | done (k : Nat) (code data : Byte)
  /-- Sample number `k` of `CTRL.STO` is the first to read 0. -/
  | cleared (k : Nat)
  /-- The flag is not seen within the budget. -/
  | never
  deriving DecidableEq, Repr

/-- The bus phase, where the open transaction stands (R38). -/
inductive BusPhase where
  | idle
  | started
  | tx
  | rx
  | rxLast
  | unknown
  deriving DecidableEq, Repr

/-- How a launched phase ended (R11, R121). -/
inductive PhaseEnd where
  | completed (code : Byte) (data : Option Byte)
  | stopCleared
  | expired
  deriving DecidableEq, Repr

/-- An event of TRACE (R11, R121). -/
inductive Event where
  | init
  | phase (ph : Phase) (how : PhaseEnd)
  | release
  deriving DecidableEq, Repr

/-- The Sequencer's step (R34, R176). -/
inductive Seq where
  | idle
  | prim
  | w0
  | w1
  | w2
  | w3
  | w4
  | r0
  | r1
  | r2
  | r3
  | r4
  | r5
  | r6
  deriving DecidableEq, Repr

/-- The two bus lines, seen from the block (R45, R79, R116; log 7): either the Core drives neither, or it has been
given a phase and what it drives is below the level of the spec (R8, R65). -/
inductive Lines where
  | released
  | underCore
  deriving DecidableEq, Repr

/-- The register CTRL (R21), its five fields; bits 3, 1 and 0 do not exist as storage (R27, log 8). -/
structure Ctrl where
  /-- Bit 7: the phase has ended on the bus (R22). -/
  done : Bool
  /-- Bit 6: acknowledge the byte received (R25). -/
  aen : Bool
  /-- Bit 5: start condition requested (R23). -/
  sta : Bool
  /-- Bit 4: stop condition requested (R24). -/
  sto : Bool
  /-- Bit 2: controller enabled (R26). -/
  en : Bool
  deriving DecidableEq, Repr

/-- The Engine's control state (R120), with what it keeps aside: the phase being run, the outcome a recovery stop
must not replace, the outcome or response still to be acted on. -/
inductive Control where
  | idle
  | decode
  | setup
  | launch (ph : Phase) (kept : Option BusOutcome)
  | sample (ph : Phase) (kept : Option BusOutcome)
  | wait (ph : Phase) (kept : Option BusOutcome)
  | read (ph : Phase)
  | release (o : BusOutcome)
  | next (o : BusOutcome) (rdata : Byte)
  | respond (r : Response) (rdata : Byte)
  deriving DecidableEq, Repr

/-- What the host or the environment does in one step (R7, R43; log 2). While BUSY = 1 every entry but `reset` and
`coreComplete` is one micro-step of the Engine (R120), so a word presented then is not accepted (R140). -/
inductive Input where
  /-- `cmd_valid` = 0. -/
  | idle
  /-- The host presents `w`; when accepted, the command runs to its response in this step, each phase as the big step
  of R113. -/
  | command (w : Word)
  /-- The host presents `w`; when accepted, the command runs in the micro-steps of R120, one a step. -/
  | accept (w : Word)
  /-- The environment's micro-step `CoreComplete` (R114): the Core ends the phase it has pending. -/
  | coreComplete (code : BitVec 5) (data : Byte)
  /-- `rst` asserted (R220). -/
  | reset
  deriving DecidableEq, Repr

end Sys2Proof.Machine
end

