-- ==== Sys2Proof/Machine/State.lean ====
section
/-!
DEFINITION. The whole state of I2CM (R20, R45), the reasons a step can stop, and the state after reset (R220).
-/

namespace Sys2Proof.Machine

/-- The whole state: the items of R20 and R45, then the model's own fields. -/
structure State where
  /-- CTRL, the Core's control register (R21). -/
  ctrl : Ctrl
  /-- STATUS, bits 2:0 always 0 (R28). -/
  status : Byte
  /-- DATA, the transmit/receive data register (R29). -/
  data : Byte
  /-- DIV, the bus clock divisor (R30). -/
  div : Byte
  /-- BUDGET, the TimeoutBudget (R31). -/
  budget : Byte
  /-- BUSY (R32). -/
  busy : Bool
  /-- CMDR, the command word latched at acceptance (R33). -/
  cmdr : Word
  /-- SEQ, the Sequencer's step (R34). -/
  seq : Seq
  /-- IDX, the index of the next byte to receive (R35). -/
  idx : Byte
  /-- RSP, the response register (R36, R92). -/
  rsp : Word
  /-- The port rsp_valid, 1 in the step RSP is written (R44). -/
  rspValid : Bool
  /-- RXBUF, the receive buffer (R37). -/
  rxbuf : Vector Byte Config.rxbufSize
  /-- BP, the bus phase (R38). -/
  bp : BusPhase
  /-- PEND, the phase the Core is still working on (R39). -/
  pend : Option Phase
  /-- TRACE, the event history, oldest first (R42). -/
  trace : List Event
  /-- The lines scl and sda (R44, R45). -/
  lines : Lines
  /-- Model: the Engine's control state (R120). -/
  ctl : Control
  /-- Model: what the host and the environment do next, one entry a step (R43; log 2). -/
  inputs : List Input
  /-- Model: the environment's answers to the phases to come (R43, R78; log 1). -/
  env : List Config.Answer
  /-- Model: how many free values have been drawn (log 17). -/
  draws : Nat
  deriving DecidableEq, Repr

/-- The reasons for a fault. There is none: "Nothing in this core is fatal" (R203), and every failure of a command is
a response (R191). -/
inductive Fault
  deriving DecidableEq, Repr

/-- The reasons for a refusal. -/
inductive Refusal where
  /-- Raised by an arm of `exec` whose instruction has no meaning yet; no arm does so. Safe: nothing is claimed. -/
  | notModelled (mnemonic : String)
  /-- Raised by every command when R149 does not allow it in the bus phase `bp` while CTRL.EN = 1: what the Core does
  then is not in the source, and a model refuses it (R150, U1; log 5). Safe: nothing is claimed. -/
  | outOfOrder (bp : BusPhase)
  deriving DecidableEq, Repr

/-- `n` entries of the receive buffer after power-on, from entry `i` on (R45; log 3). -/
def rxbufFill : Nat → Nat → List Byte
  | 0, _ => []
  | n + 1, i => Config.resetRxbuf i :: rxbufFill n (i + 1)

theorem rxbufFill_length (n i : Nat) : (rxbufFill n i).length = n := by
  induction n generalizing i with
  | zero => rfl
  | succ n ih => simp [rxbufFill, ih]

/-- CTRL = `0x00` (R45). -/
def Ctrl.zero : Ctrl := { done := false, aen := false, sta := false, sto := false, en := false }

/-- What every reset leaves (R45, R220), but for the receive buffer and the fields that belong to the world outside;
`n` is the draw counter, which picks the free values of STATUS, DATA, CMDR and RSP. -/
def State.afterReset (n : Nat) (rxbuf : Vector Byte Config.rxbufSize) (inputs : List Input)
    (env : List Config.Answer) : State :=
  { ctrl := Ctrl.zero
    status := Config.resetStatus n ++ 0#3
    data := Config.resetData n
    div := 0x00#8
    budget := 0#8
    busy := false
    cmdr := Config.resetCmdr n
    seq := .idle
    idx := 0#8
    rsp := Config.resetRsp n
    rspValid := false
    rxbuf := rxbuf
    bp := .idle
    pend := none
    trace := []
    lines := .released
    ctl := .idle
    inputs := inputs
    env := env
    draws := n }

/-- The machine right after power-on (R45, R220). -/
def State.reset : State :=
  State.afterReset 0 ⟨⟨rxbufFill Config.rxbufSize 0⟩, rxbufFill_length Config.rxbufSize 0⟩ [] []

end Sys2Proof.Machine
end

