-- ==== Sys2Proof/Machine/Flags.lean ====
section
/-!
DEFINITION. The flags of R46 and the status classifier: CTRL as a byte, what each Launch writes, which flag a phase
waits for, the class of a status (R94, R115), and what each command makes of it (R148).
-/

namespace Sys2Proof.Machine

/-! ### CTRL (R21 to R27) -/

/-- CTRL as the 8-bit register of R21: DONE 7, AEN 6, STA 5, STO 4, EN 2; bits 3, 1 and 0 read 0 (R27). -/
def Ctrl.byte (c : Ctrl) : Byte :=
  BitVec.ofBool c.done ++ BitVec.ofBool c.aen ++ BitVec.ofBool c.sta ++ BitVec.ofBool c.sto ++ 0#1
    ++ BitVec.ofBool c.en ++ 0#2

/-- CTRL from a byte: what is written to a reserved bit is dropped (R27). -/
def Ctrl.ofByte (b : Byte) : Ctrl :=
  { done := b.getLsbD 7, aen := b.getLsbD 6, sta := b.getLsbD 5, sto := b.getLsbD 4, en := b.getLsbD 2 }

/-- The idle-enabled state, CTRL = `0x04` (R27, R116). -/
def Ctrl.idleEnabled : Ctrl := { done := false, aen := false, sta := false, sto := false, en := true }

/-- A phase receives a byte. -/
def Phase.isRx : Phase → Bool
  | .rx _ => true
  | _ => false

/-- The one write of Launch (R110): the three request bits as given, DONE cleared, EN kept. -/
def Ctrl.launch (c : Ctrl) (sta sto aen : Bool) : Ctrl :=
  { done := false, aen := aen, sta := sta, sto := sto, en := c.en }

/-- The argument `sta` of a phase's Launch (R110): 1 for a start. -/
def Phase.sta (ph : Phase) : Bool := ph == .start

/-- The argument `sto` of a phase's Launch (R110): 1 for a stop. -/
def Phase.sto (ph : Phase) : Bool := ph == .stop

/-- The argument `aen` of a phase's Launch (R110): 1 for a receive that acknowledges. -/
def Phase.aen (ph : Phase) : Bool := ph == .rx true

/-- The flag a phase waits for is seen: CTRL.STO = 0 for a stop (R112), CTRL.DONE = 1 for any other (R111). -/
def Ctrl.seen (ph : Phase) (c : Ctrl) : Bool :=
  match ph with
  | .stop => !c.sto
  | _ => c.done

/-! ### The classifier (R94, R95, R115) -/

/-- The class of a status: bits 7:3 alone are read (R95). -/
def classify (c : Byte) : StatusClass :=
  let k := c.extractLsb' 3 5
  if k = 0x01#5 then .startSent
  else if k = 0x02#5 then .repStartSent
  else if k = 0x03#5 then .addrAck .write
  else if k = 0x04#5 then .addrNack .write
  else if k = 0x05#5 then .dataTxAck
  else if k = 0x06#5 then .dataTxNack
  else if k = 0x07#5 then .arbLost
  else if k = 0x08#5 then .addrAck .read
  else if k = 0x09#5 then .addrNack .read
  else if k = 0x0A#5 then .dataRxAck
  else if k = 0x0B#5 then .dataRxNack
  else .other

/-! ### What a command makes of a status (R142 to R148) -/

/-- What the Engine does about a status it does not take for success (R202). -/
inductive Recovery where
  /-- Nothing: the Core is left as it stands and BP becomes UNKNOWN. -/
  | leave
  /-- A stop phase, its outcome dropped. -/
  | stop
  /-- A release. -/
  | release
  deriving DecidableEq, Repr

/-- What a status means to the running phase: success with the bus phase it leads to, or failure with its recovery. -/
inductive Verdict where
  | success (bp : BusPhase)
  | failure (r : Recovery)
  deriving DecidableEq, Repr

/-- The statuses of a start phase (R142). -/
def startVerdict (c : Byte) : Verdict :=
  match classify c with
  | .startSent => .success .started
  | .repStartSent => .success .started
  | .arbLost => .failure .release
  | _ => .failure .leave

/-- The bus phase after an acknowledged address (R38, R144). -/
def addressed : Dir → BusPhase
  | .write => .tx
  | .read => .rx

/-- The statuses of an address phase in direction `d` (R144). -/
def addrVerdict (d : Dir) (c : Byte) : Verdict :=
  match classify c with
  | .addrAck d' => if d' = d then .success (addressed d) else .failure .release
  | .addrNack _ => .failure .stop
  | _ => .failure .release

/-- The statuses of a transmitted data byte (R145). -/
def txVerdict (c : Byte) : Verdict :=
  match classify c with
  | .dataTxAck => .success .tx
  | .dataTxNack => .failure .stop
  | _ => .failure .release

/-- The statuses of a received byte that is acknowledged (R146). -/
def rxAckVerdict (c : Byte) : Verdict :=
  match classify c with
  | .dataRxAck => .success .rx
  | _ => .failure .release

/-- The statuses of a received byte that is not acknowledged (R147). -/
def rxNackVerdict (c : Byte) : Verdict :=
  match classify c with
  | .dataRxNack => .success .rxLast
  | _ => .failure .release

/-- The verdict that belongs to a phase, for the micro-step machine; the direction of an address phase is bit 0 of its
byte (R90). A stop phase reads no status (R117): the last line is never reached. -/
def verdictOf : Phase → Byte → Verdict
  | .start => startVerdict
  | .addr b => addrVerdict (Dir.ofBit (b.extractLsb' 0 1))
  | .tx _ => txVerdict
  | .rx true => rxAckVerdict
  | .rx false => rxNackVerdict
  | .stop => fun _ => .failure .leave

/-! ### The legal order of commands (R149) -/

/-- The table of R149: the commands that are legal in each bus phase. -/
def orderLegal (bp : BusPhase) (i : Instr) : Bool :=
  match bp, i with
  | .idle, .init => true
  | .idle, .start => true
  | .idle, .writeRegister _ _ _ => true
  | .idle, .readRegister _ _ _ => true
  | .started, .sendAddress _ _ => true
  | .tx, .writeByte _ => true
  | .tx, .start => true
  | .tx, .stop => true
  | .tx, .writeRegister _ _ _ => true
  | .tx, .readRegister _ _ _ => true
  | .rx, .readByteAck => true
  | .rx, .readByteNack => true
  | .rxLast, .start => true
  | .rxLast, .stop => true
  | .rxLast, .writeRegister _ _ _ => true
  | .rxLast, .readRegister _ _ _ => true
  | .unknown, .init => true
  | .unknown, .start => true
  | .unknown, .stop => true
  | .unknown, .writeRegister _ _ _ => true
  | .unknown, .readRegister _ _ _ => true
  | _, _ => false

/-- The model runs the command: R149 allows it, or the Core is disabled, in which case every command but `INIT` runs
whatever the order and its phase is never answered (R79, R223; log 5). -/
def admitted (i : Instr) (s : State) : Bool :=
  orderLegal s.bp i || (!s.ctrl.en && i != .init)

end Sys2Proof.Machine
end

