-- ==== Sys2Proof/Machine/Operands.lean ====
section
/-!
DEFINITION. The operand forms: the address byte (R90), the operands of the running command in CMDR (R33), the phase of
each step of SEQ and the step after it (R176), the response word and its fields (R92, R93), the receive buffer (R37),
and the environment's answer as a PhaseResult (R78).
-/

namespace Sys2Proof.Machine

/-- The address byte `{addr7, readBit}` (R90). -/
def addrByte (dev : Addr7) (rw : Dir) : Byte := dev ++ rw.bit

/-- The byte a phase sends, where it sends one (R118). -/
def Phase.sends : Phase → Option Byte
  | .addr b => some b
  | .tx b => some b
  | _ => none

/-! ### The running command (R33) and its steps (R176) -/

/-- The fields of the running command (R33). -/
def State.fields (s : State) : Fields := Fields.split s.cmdr

/-- The one phase of a primitive command (R98), by OP. -/
def primPhase (f : Fields) : Option Phase :=
  if f.op = 2#4 then some .start
  else if f.op = 3#4 then some .stop
  else if f.op = 4#4 then some (.addr (addrByte f.dev (Dir.ofBit f.rw)))
  else if f.op = 5#4 then some (.tx f.val)
  else if f.op = 6#4 then some (.rx true)
  else if f.op = 7#4 then some (.rx false)
  else none

/-- Byte number `idx` of a read of `len` bytes is received with acknowledge: all but the last (R171, R177). -/
def rxAcks (idx len : Byte) : Bool := decide (idx.toNat + 1 < len.toNat)

/-- The phase of a step of SEQ (R176). -/
def seqPhase (q : Seq) (f : Fields) (idx : Byte) : Option Phase :=
  match q with
  | .idle => none
  | .prim => primPhase f
  | .w0 => some .start
  | .w1 => some (.addr (addrByte f.dev .write))
  | .w2 => some (.tx f.reg)
  | .w3 => some (.tx f.val)
  | .w4 => some .stop
  | .r0 => some .start
  | .r1 => some (.addr (addrByte f.dev .write))
  | .r2 => some (.tx f.reg)
  | .r3 => some .start
  | .r4 => some (.addr (addrByte f.dev .read))
  | .r5 => some (.rx (rxAcks idx f.val))
  | .r6 => some .stop

/-- The step after a step that ended `Ok` (R176); `idx` is IDX before the byte of R5 is stored. -/
def seqNext (q : Seq) (f : Fields) (idx : Byte) : Option Seq :=
  match q with
  | .idle => none
  | .prim => none
  | .w0 => some .w1
  | .w1 => some .w2
  | .w2 => some .w3
  | .w3 => some .w4
  | .w4 => none
  | .r0 => some .r1
  | .r1 => some .r2
  | .r2 => some .r3
  | .r3 => some .r4
  | .r4 => some .r5
  | .r5 => if rxAcks idx f.val then some .r5 else some .r6
  | .r6 => none

/-- The first step of a command (R140, R176). -/
def firstSeq : Instr → Seq
  | .writeRegister _ _ _ => .w0
  | .readRegister _ _ _ => .r0
  | _ => .prim

/-! ### The response word (R92, R93) -/

/-- The tag of a response (R93). -/
def Response.tag : Response → BitVec 2
  | .outcome .ok => 0#2
  | .outcome .timeout => 1#2
  | .outcome (.hardwareStatus _) => 2#2
  | .refused _ => 3#2

/-- The code of a response (R93). -/
def Response.code : Response → Byte
  | .outcome .ok => 0x00#8
  | .outcome .timeout => 0x00#8
  | .outcome (.hardwareStatus c) => c
  | .refused reason => reason

/-- The response word: TAG 31:30, zeros 29:24, CODE 23:16, COUNT 15:8, RDATA 7:0 (R92). -/
def responseWord (r : Response) (count rdata : Byte) : Word :=
  r.tag ++ 0#6 ++ r.code ++ count ++ rdata

/-- RSP.TAG (R92). -/
def rspTag (w : Word) : BitVec 2 := w.extractLsb' 30 2

/-- RSP.CODE (R92). -/
def rspCode (w : Word) : Byte := w.extractLsb' 16 8

/-- RSP.COUNT (R92). -/
def rspCount (w : Word) : Byte := w.extractLsb' 8 8

/-- RSP.RDATA (R92). -/
def rspRdata (w : Word) : Byte := w.extractLsb' 0 8

/-! ### The receive buffer (R37) -/

/-- `RXBUF[i] <- d` for an entry that exists (R37). -/
def rxbufWrite (v : Vector Byte Config.rxbufSize) (i d : Byte) : Vector Byte Config.rxbufSize :=
  if h : i.toNat < Config.rxbufSize then v.set i.toNat d h else v

/-- `RXBUF[i]`, where there is such an entry (R37, R44). -/
def rxbufRead (v : Vector Byte Config.rxbufSize) (i : Byte) : Option Byte :=
  if h : i.toNat < Config.rxbufSize then some (v[i.toNat]'h) else none

/-! ### The environment's answers (R78) -/

/-- The raw answer as the PhaseResult it is for a phase (R78): any delay below `POLL_LIMIT` is a completion the poll
sees, and the code is a multiple of 8. -/
def resultOf (a : Config.Answer) (ph : Phase) : PhaseResult :=
  match a.delay with
  | none => .never
  | some k =>
    if k < Config.pollLimit then
      match ph with
      | .stop => .cleared k
      | _ => .done k (a.code ++ 0#3) a.data
    else .never

end Sys2Proof.Machine
end

