-- ==== Sys2Proof/Machine/Ops.lean ====
section
/-!
DEFINITION. The named operations over the state: the register writes, the Engine's procedures in big steps (R110 to
R119), acceptance and response (R140), the early end of a command (R201), the Core's completion (R114) and reset
(R220, R221).
-/

namespace Sys2Proof.Machine

/-! ### Single writes -/

/-- `Emit(e)` (R10, R42). -/
def State.emit (s : State) (e : Event) : State := { s with trace := s.trace ++ [e] }

/-- `BP <- p` (R38). -/
def State.setBp (s : State) (p : BusPhase) : State := { s with bp := p }

/-- `SEQ <- q` (R34). -/
def State.setSeq (s : State) (q : Seq) : State := { s with seq := q }

/-- The Engine goes to a control state (R120). -/
def State.setCtl (s : State) (c : Control) : State := { s with ctl := c }

/-- `IDX <- 0`, done when `READ_REGISTER` begins (R35, R171). -/
def State.clearIdx (s : State) : State := { s with idx := 0#8 }

/-- `RXBUF[IDX] <- d; IDX <- IDX + 1` (R171). -/
def State.storeRx (s : State) (d : Byte) : State :=
  { s with rxbuf := rxbufWrite s.rxbuf s.idx d, idx := s.idx + 1#8 }

/-! ### Launching a phase (R110, R118) -/

/-- `DATA <- b` before the launch of a phase that sends a byte (R29, R118). -/
def State.loadData (s : State) (ph : Phase) : State :=
  match ph.sends with
  | some b => { s with data := b }
  | none => s

/-- The lines after a Launch: a disabled Core drives neither (R79), an enabled one has been given a phase. -/
def linesAtLaunch (s : State) : Lines := if s.ctrl.en then .underCore else s.lines

/-- `Launch` with the arguments of the phase, then `PEND <- some(ph)` (R110, R117, R118). -/
def State.launch (s : State) (ph : Phase) : State :=
  { s with
    ctrl := s.ctrl.launch ph.sta ph.sto ph.aen
    pend := some ph
    lines := linesAtLaunch s }

/-! ### The environment's answer (R78, R79) -/

/-- The next raw answer: the head of the script, or a free value when the script has ended (log 1). -/
def takeAnswer (s : State) : Config.Answer × State :=
  match s.env with
  | a :: rest => (a, { s with env := rest })
  | [] => (Config.freeAnswer s.draws, { s with draws := s.draws + 1 })

/-- `Env(ph)` (R78): `Never` from a disabled Core, which consumes no answer (R79; log 16). -/
def envAnswer (ph : Phase) (s : State) : PhaseResult × State :=
  if s.ctrl.en then (resultOf (takeAnswer s).1 ph, (takeAnswer s).2) else (.never, s)

/-! ### The poll of a phase as one big step (R113) -/

/-- What a poll returns (R10, R111). -/
inductive Poll where
  | ready
  | expired
  deriving DecidableEq, Repr

/-- BUDGET when sample number `k` is the first to see the flag (R113, R123). -/
def budgetAfter (k : Nat) : Byte := BitVec.ofNat 8 (Config.pollLimit - k)

/-- The Core ends a start, address, transmit or receive phase: DONE, STATUS, and DATA for a receive (R22, R114). -/
def State.coreDone (s : State) (ph : Phase) (code data : Byte) : State :=
  { s with
    ctrl := { s.ctrl with done := true }
    status := code
    data := if ph.isRx then data else s.data
    pend := none }

/-- The Core has put the stop condition on the bus: it clears STO and gives the bus up (R24, R75, R114). -/
def State.coreStopped (s : State) : State :=
  { s with ctrl := { s.ctrl with sto := false }, pend := none, lines := .released }

/-- The big step of R113: from the Launch to the return of `PollDone` or `PollStop`. -/
def await (ph : Phase) (s : State) : Poll × State :=
  match envAnswer ph s with
  | (.done k code data, s1) => (.ready, { s1.coreDone ph code data with budget := budgetAfter k })
  | (.cleared k, s1) => (.ready, { s1.coreStopped with budget := budgetAfter k })
  | (.never, s1) => (.expired, { s1 with budget := 0#8 })

/-! ### One phase (R117, R118, R119) -/

/-- What `DonePhase` returns (R118). -/
inductive PhaseStatus where
  | expired
  | code (c : Byte)
  deriving DecidableEq, Repr

/-- The event of a completed start, address, transmit or receive phase (R118, R121). -/
def completedEvent (ph : Phase) (s : State) : Event :=
  .phase ph (.completed s.status (if ph.isRx then some s.data else none))

/-- What the Engine does when a phase has expired: the event, BP UNKNOWN, and nothing to the Core (R119). -/
def State.expire (s : State) (ph : Phase) : State := (s.emit (.phase ph .expired)).setBp .unknown

/-- What the Engine does when it has seen STO cleared (R117). -/
def State.stopCleared (s : State) : State := (s.emit (.phase .stop .stopCleared)).setBp .idle

/-- `DonePhase(ph)` (R118). -/
def donePhase (ph : Phase) (s : State) : PhaseStatus × State :=
  match await ph ((s.loadData ph).launch ph) with
  | (.expired, s1) => (.expired, s1.expire ph)
  | (.ready, s1) => (.code s1.status, s1.emit (completedEvent ph s1))

/-- `StopPhase()` (R117). -/
def stopPhase (s : State) : BusOutcome × State :=
  match await .stop (s.launch .stop) with
  | (.ready, s1) => (.ok, s1.stopCleared)
  | (.expired, s1) => (.timeout, s1.expire .stop)

/-- `Release()` (R116). -/
def State.release (s : State) : State :=
  { s with ctrl := Ctrl.idleEnabled, pend := none, bp := .idle, lines := .released, trace := s.trace ++ [.release] }

/-! ### The body of a command (R142 to R147, R170, R171) -/

/-- How a body ended: its outcome, the byte it received (0 unless a receive ended `Ok`), and the state. -/
structure Ended where
  outcome : BusOutcome
  rdata : Byte
  state : State
  deriving DecidableEq, Repr

/-- The recovery a status calls for, after which the status is the outcome whatever the recovery did (R116, R144,
R148, R203). -/
def recover (r : Recovery) (s : State) : State :=
  match r with
  | .leave => s.setBp .unknown
  | .stop => (stopPhase s).2
  | .release => s.release

/-- What a command makes of the end of its phase: `Timeout` with nothing done (R119), or success or recovery as the
verdict on the status says (R148). -/
def settle (ph : Phase) (verdict : Byte → Verdict) (r : PhaseStatus × State) : Ended :=
  match r with
  | (.expired, s) => { outcome := .timeout, rdata := 0#8, state := s }
  | (.code c, s) =>
    match verdict c with
    | .success bp => { outcome := .ok, rdata := if ph.isRx then s.data else 0#8, state := s.setBp bp }
    | .failure r => { outcome := .hardwareStatus c, rdata := 0#8, state := recover r s }

/-- One phase and what its status calls for (R142, R144 to R147). -/
def runPhase (ph : Phase) (verdict : Byte → Verdict) (s : State) : Ended := settle ph verdict (donePhase ph s)

/-- The body of `STOP` and the last step of both transactions (R117, R143). -/
def runStop (s : State) : Ended :=
  { outcome := (stopPhase s).1, rdata := 0#8, state := (stopPhase s).2 }

/-- The short circuit of R172: the next step runs on `Ok` alone, any other outcome is passed on untouched (R201). -/
def Ended.andThen (e : Ended) (k : State → Ended) : Ended :=
  match e.outcome with
  | .ok => k e.state
  | .timeout => e
  | .hardwareStatus _ => e

/-! ### Acceptance and response (R140, R201) -/

/-- Acceptance: `CMDR <- cmd; BUSY <- 1` (R140). -/
def State.acceptWord (s : State) (w : Word) : State := { s with cmdr := w, busy := true }

/-- `Respond(o, count, rdata)` (R140): the one end of every command, early or not (R201). RSP is written, SEQ goes to
S_IDLE, BUSY falls, rsp_valid pulses. -/
def State.respond (s : State) (r : Response) (count rdata : Byte) : State :=
  { s with rsp := responseWord r count rdata, seq := .idle, busy := false, rspValid := true, ctl := .idle }

/-- The answer to an illegal word: `Refused(reason)` and nothing else (R88, R196). -/
def State.refuseWord (s : State) (r : Reject) : State := s.respond (.refused r.reason) 0#8 0#8

/-- The response of a primitive command: COUNT = 0, RDATA the byte received or 0 (R92, R140). -/
def Ended.answerPrimitive (e : Ended) : State := e.state.respond (.outcome e.outcome) 0#8 e.rdata

/-- The response of `WRITE_REGISTER`: COUNT = 0, RDATA = 0 (R92, R170). -/
def Ended.answerWrite (e : Ended) : State := e.state.respond (.outcome e.outcome) 0#8 0#8

/-- The response of `READ_REGISTER`: COUNT = IDX, RDATA = 0 (R92, R171). -/
def Ended.answerRead (e : Ended) : State := e.state.respond (.outcome e.outcome) e.state.idx 0#8

/-- A command runs where the model admits it; where R149 does not allow it the model refuses it by name (R150). -/
def issue (i : Instr) (s : State) (run : State → State) : Host.Outcome State Fault Refusal :=
  if admitted i s then .next (run s) else .refused (.outOfOrder s.bp)

/-! ### The environment's own step, and reset -/

/-- `CoreComplete` (R114): enabled when a phase is pending and CTRL.EN = 1; after a `Timeout` it is the late completion
of R39. It adds no event (R121). -/
def State.coreComplete (s : State) (code : BitVec 5) (data : Byte) : State :=
  match s.pend with
  | none => s
  | some ph =>
    if s.ctrl.en then
      match ph with
      | .stop => s.coreStopped
      | _ => s.coreDone ph (code ++ 0#3) data
    else s

/-- `rst` asserted, also in mid-transaction (R220, R221): every item at its reset value, the registers left unspecified
at free values, RXBUF as it was, the running command without a response. The world outside is not reset (log 11). -/
def State.resetPulse (s : State) : State :=
  State.afterReset (s.draws + 1) s.rxbuf s.inputs s.env

end Sys2Proof.Machine
end

