-- ==== Sys2Proof/Machine/Primitives.lean ====
section
/-!
DEFINITION. The meanings of the seven primitive commands (R141 to R147). Each body is the pseudocode of its rule without
acceptance and response, as the transactions use it (R170); each `exec...` adds the order check and the response.
-/

namespace Sys2Proof.Machine

/-- The body of `INIT` (R141): `DIV <- DIV_INIT; CTRL <- 0x04`, no phase, always `Ok`. -/
def initBody (s : State) : Ended :=
  { outcome := .ok
    rdata := 0#8
    state := { s with
      div := Config.divInit
      ctrl := Ctrl.idleEnabled
      pend := none
      bp := .idle
      lines := .released
      trace := s.trace ++ [.init] } }

/-- The body of `START` (R142). -/
def startBody (s : State) : Ended := runPhase .start startVerdict s

/-- The body of `STOP` (R143). -/
def stopBody (s : State) : Ended := runStop s

/-- The body of `SEND_ADDRESS` (R144). -/
def sendAddressBody (dev : Addr7) (rw : Dir) (s : State) : Ended :=
  runPhase (.addr (addrByte dev rw)) (addrVerdict rw) s

/-- The body of `WRITE_BYTE` (R145). -/
def writeByteBody (val : Byte) (s : State) : Ended := runPhase (.tx val) txVerdict s

/-- The body of `READ_BYTE_ACK` (R146). -/
def readByteAckBody (s : State) : Ended := runPhase (.rx true) rxAckVerdict s

/-- The body of `READ_BYTE_NACK` (R147). -/
def readByteNackBody (s : State) : Ended := runPhase (.rx false) rxNackVerdict s

/-- `INIT` (R141). -/
def execInit (s : State) : Host.Outcome State Fault Refusal :=
  issue .init s fun s => (initBody (s.setSeq .prim)).answerPrimitive

/-- `START` (R142). -/
def execStart (s : State) : Host.Outcome State Fault Refusal :=
  issue .start s fun s => (startBody (s.setSeq .prim)).answerPrimitive

/-- `STOP` (R143). -/
def execStop (s : State) : Host.Outcome State Fault Refusal :=
  issue .stop s fun s => (stopBody (s.setSeq .prim)).answerPrimitive

/-- `SEND_ADDRESS` (R144). -/
def execSendAddress (dev : Addr7) (rw : Dir) (s : State) : Host.Outcome State Fault Refusal :=
  issue (.sendAddress dev rw) s fun s => (sendAddressBody dev rw (s.setSeq .prim)).answerPrimitive

/-- `WRITE_BYTE` (R145). -/
def execWriteByte (val : Byte) (s : State) : Host.Outcome State Fault Refusal :=
  issue (.writeByte val) s fun s => (writeByteBody val (s.setSeq .prim)).answerPrimitive

/-- `READ_BYTE_ACK` (R146). -/
def execReadByteAck (s : State) : Host.Outcome State Fault Refusal :=
  issue .readByteAck s fun s => (readByteAckBody (s.setSeq .prim)).answerPrimitive

/-- `READ_BYTE_NACK` (R147). -/
def execReadByteNack (s : State) : Host.Outcome State Fault Refusal :=
  issue .readByteNack s fun s => (readByteNackBody (s.setSeq .prim)).answerPrimitive

end Sys2Proof.Machine
end

