-- ==== Sys2Proof/Machine/Registers.lean ====
section
/-!
DEFINITION. The meanings of the two register transactions (R170 to R177).
-/

namespace Sys2Proof.Machine

/-- The body of `WRITE_REGISTER` (R170): the steps W0 to W4. -/
def writeRegisterBody (dev : Addr7) (reg val : Byte) (s : State) : Ended :=
  (startBody (s.setSeq .w0)).andThen fun s =>
  (sendAddressBody dev .write (s.setSeq .w1)).andThen fun s =>
  (writeByteBody reg (s.setSeq .w2)).andThen fun s =>
  (writeByteBody val (s.setSeq .w3)).andThen fun s =>
  stopBody (s.setSeq .w4)

/-- The body of the receive step R5 (R171, R176): acknowledged unless it is the last byte (R177). -/
def receiveBody (len : Byte) (s : State) : Ended :=
  if rxAcks s.idx len then readByteAckBody s else readByteNackBody s

/-- The loop of R5 (R171): at most `n` more bytes; a byte is stored when its phase ended `Ok`. -/
def receiveLoop (len : Byte) : Nat → State → Ended
  | 0, s => { outcome := .ok, rdata := 0#8, state := s }
  | n + 1, s =>
    if s.idx.toNat < len.toNat then
      match receiveBody len s with
      | { outcome := .ok, rdata := d, state := s1 } => receiveLoop len n (s1.storeRx d)
      | { outcome := .timeout, rdata := d, state := s1 } => { outcome := .timeout, rdata := d, state := s1 }
      | { outcome := .hardwareStatus c, rdata := d, state := s1 } =>
        { outcome := .hardwareStatus c, rdata := d, state := s1 }
    else { outcome := .ok, rdata := 0#8, state := s }

/-- The body of `READ_REGISTER` (R171): the steps R0 to R6. -/
def readRegisterBody (dev : Addr7) (reg len : Byte) (s : State) : Ended :=
  (startBody (s.clearIdx.setSeq .r0)).andThen fun s =>
  (sendAddressBody dev .write (s.setSeq .r1)).andThen fun s =>
  (writeByteBody reg (s.setSeq .r2)).andThen fun s =>
  (startBody (s.setSeq .r3)).andThen fun s =>
  (sendAddressBody dev .read (s.setSeq .r4)).andThen fun s =>
  (receiveLoop len len.toNat (s.setSeq .r5)).andThen fun s =>
  stopBody (s.setSeq .r6)

/-- `WRITE_REGISTER` (R170). -/
def execWriteRegister (dev : Addr7) (reg val : Byte) (s : State) : Host.Outcome State Fault Refusal :=
  issue (.writeRegister dev reg val) s fun s => (writeRegisterBody dev reg val s).answerWrite

/-- `READ_REGISTER` (R171). A length of 0 is no command: it is answered as the decoder answers the word, `Refused(0x03)`
(R88, R89; log 6). -/
def execReadRegister (dev : Addr7) (reg len : Byte) (s : State) : Host.Outcome State Fault Refusal :=
  if lenOk len then issue (.readRegister dev reg len) s fun s => (readRegisterBody dev reg len s).answerRead
  else .next (s.refuseWord .zeroLength)

end Sys2Proof.Machine
end

