-- ==== Sys2Proof/Machine/Dispatch.lean ====
section
/-!
DEFINITION. One arm per command, each one direct call of its meaning.
-/

namespace Sys2Proof.Machine

def exec (i : Instr) (s : State) : Host.Outcome State Fault Refusal :=
  match i with
  | .init => Sys2Proof.Machine.execInit s
  | .start => Sys2Proof.Machine.execStart s
  | .stop => Sys2Proof.Machine.execStop s
  | .sendAddress dev rw => Sys2Proof.Machine.execSendAddress dev rw s
  | .writeByte val => Sys2Proof.Machine.execWriteByte val s
  | .readByteAck => Sys2Proof.Machine.execReadByteAck s
  | .readByteNack => Sys2Proof.Machine.execReadByteNack s
  | .writeRegister dev reg val => Sys2Proof.Machine.execWriteRegister dev reg val s
  | .readRegister dev reg len => Sys2Proof.Machine.execReadRegister dev reg len s

end Sys2Proof.Machine
end

