-- ==== Sys2Proof/Machine/Micro.lean ====
section
/-!
DEFINITION. The Engine as the state machine of R120: one micro-step at a time, the environment's `CoreComplete` (R114)
acting between them. The operands of the running command are read from CMDR (R33), its step from SEQ (R34).
-/

namespace Sys2Proof.Machine

/-- E_DECODE (R89, R120, R140, R150): an illegal word is answered `Refused`; a word out of order is refused by the model;
`INIT` runs here; any other command sets SEQ (and `READ_REGISTER` clears IDX, R35). -/
def tickDecode (s : State) : Host.Outcome State Fault Refusal :=
  match decode s.cmdr with
  | .error r => .next (s.setCtl (.respond (.refused r.reason) 0#8))
  | .ok i =>
    if admitted i s then
      match i with
      | .init => .next ((initBody (s.setSeq .prim)).state.setCtl (.respond (.outcome .ok) 0#8))
      | .readRegister _ _ _ => .next ((s.clearIdx.setSeq .r0).setCtl .setup)
      | .writeRegister _ _ _ => .next ((s.setSeq .w0).setCtl .setup)
      | _ => .next ((s.setSeq .prim).setCtl .setup)
    else .refused (.outOfOrder s.bp)

/-- E_SETUP (R120): write DATA if the phase sends a byte. -/
def tickSetup (s : State) : State :=
  match seqPhase s.seq s.fields s.idx with
  | some ph => (s.loadData ph).setCtl (.launch ph none)
  | none => s

/-- E_LAUNCH (R120): Launch, PEND, and BUDGET loaded with `POLL_LIMIT` (R111). -/
def tickLaunch (ph : Phase) (kept : Option BusOutcome) (s : State) : State :=
  ({ s.launch ph with budget := BitVec.ofNat 8 Config.pollLimit }).setCtl (.sample ph kept)

/-- E_SAMPLE (R111, R112, R120): one sample of the awaited flag. A stop phase seen cleared ends with `Ok`, or with the
outcome kept aside when it is a recovery (R203). -/
def tickSample (ph : Phase) (kept : Option BusOutcome) (s : State) : State :=
  if s.ctrl.seen ph then
    match ph with
    | .stop => s.stopCleared.setCtl (.next (kept.getD .ok) 0#8)
    | _ => s.setCtl (.read ph)
  else s.setCtl (.wait ph kept)

/-- E_WAIT (R111, R120): `Delay(T_POLL_US); BUDGET <- BUDGET - 1`; at 0 the phase has expired. -/
def tickWait (ph : Phase) (kept : Option BusOutcome) (s : State) : State :=
  if s.budget - 1#8 = 0#8 then
    (({ s with budget := s.budget - 1#8 }).expire ph).setCtl (.next (kept.getD .timeout) 0#8)
  else ({ s with budget := s.budget - 1#8 }).setCtl (.sample ph kept)

/-- E_READ (R118, R120): read STATUS, and DATA for a receive; success, or the recovery the verdict names. -/
def tickRead (ph : Phase) (s : State) : State :=
  match verdictOf ph s.status with
  | .success bp =>
    ((s.emit (completedEvent ph s)).setBp bp).setCtl (.next .ok (if ph.isRx then s.data else 0#8))
  | .failure .leave =>
    ((s.emit (completedEvent ph s)).setBp .unknown).setCtl (.next (.hardwareStatus s.status) 0#8)
  | .failure .stop =>
    (s.emit (completedEvent ph s)).setCtl (.launch .stop (some (.hardwareStatus s.status)))
  | .failure .release =>
    (s.emit (completedEvent ph s)).setCtl (.release (.hardwareStatus s.status))

/-- The byte of a receive step that ended `Ok` goes to RXBUF (R171). R120 places this write in no control state; that it is
done in E_NEXT is the model's choice (DESIGN CHOICE, log 23). -/
def storeIfReceive (rdata : Byte) (s : State) : State :=
  if s.seq = .r5 then s.storeRx rdata else s

/-- E_NEXT (R120, R172, R176): on `Ok` the byte received is stored (log 23) and the next step begins, or the response
after the last; on any other outcome the response. -/
def tickNext (o : BusOutcome) (rdata : Byte) (s : State) : State :=
  match o with
  | .ok =>
    match seqNext s.seq s.fields s.idx with
    | some q => ((storeIfReceive rdata s).setSeq q).setCtl .setup
    | none => s.setCtl (.respond (.outcome .ok) rdata)
  | o => s.setCtl (.respond (.outcome o) rdata)

/-- COUNT of the response: IDX for `READ_REGISTER`, 0 for every other command and for a refused word (R92). -/
def responseCount (r : Response) (s : State) : Byte :=
  match r with
  | .refused _ => 0#8
  | .outcome _ => if s.fields.op = 9#4 then s.idx else 0#8

/-- One micro-step of the Engine (R120). -/
def tick (s : State) : Host.Outcome State Fault Refusal :=
  match s.ctl with
  | .idle => .next s
  | .decode => tickDecode s
  | .setup => .next (tickSetup s)
  | .launch ph kept => .next (tickLaunch ph kept s)
  | .sample ph kept => .next (tickSample ph kept s)
  | .wait ph kept => .next (tickWait ph kept s)
  | .read ph => .next (tickRead ph s)
  | .release o => .next (s.release.setCtl (.next o 0#8))
  | .next o rdata => .next (tickNext o rdata s)
  | .respond r rdata => .next (s.respond r (responseCount r s) rdata)

end Sys2Proof.Machine
end

