-- ==== Sys2Proof/Machine/Ports.lean ====
section
/-!
DEFINITION. The ports (R44): what the host and the environment do in one step, and what the host sees.
-/

namespace Sys2Proof.Machine

/-- The port cmd_ready (R32, R44). -/
def cmdReady (s : State) : Bool := !s.busy

/-- The port rxbuf_data for a given rxbuf_idx (R44): 255 names no entry and shows a free value (U3; log 13). -/
def rxbufData (s : State) (i : Byte) : Byte :=
  (rxbufRead s.rxbuf i).getD (Config.rxbufOutOfRange s.draws)

/-- An accepted word, run to its response in one step: decoded (R89), then the command's meaning or `Refused`. -/
def runWord (w : Word) (s : State) : Host.Outcome State Fault Refusal :=
  match decode w with
  | .ok i => exec i (s.acceptWord w)
  | .error r => .next ((s.acceptWord w).refuseWord r)

/-- What one entry of the inputs does (R114, R140, R220). While BUSY = 1 the Engine goes on with the running command
and a word presented has no effect. -/
def deliver (inp : Input) (s : State) : Host.Outcome State Fault Refusal :=
  match inp with
  | .reset => .next s.resetPulse
  | .coreComplete code data => .next (s.coreComplete code data)
  | .idle => if s.busy then tick s else .next s
  | .command w => if s.busy then tick s else runWord w s
  | .accept w => if s.busy then tick s else .next ((s.acceptWord w).setCtl .decode)

/-- The state at the beginning of a step: rsp_valid, a pulse of one step, is over (R44; log 12), and the entry is taken
from the inputs. -/
def State.beginStep (s : State) (rest : List Input) : State := { s with rspValid := false, inputs := rest }

/-- One step: the next entry of the inputs, or an idle step when nothing more comes. -/
def stepInputs (s : State) : Host.Outcome State Fault Refusal :=
  match s.inputs with
  | [] => deliver .idle (s.beginStep [])
  | inp :: rest => deliver inp (s.beginStep rest)

/-- The word of a table row presented to the machine as the next input (log 18). -/
def presentWord (s : State) (w : Word) : State := { s with inputs := .command w :: s.inputs }

end Sys2Proof.Machine
end

