-- ==== Sys2Proof/Machine/Step.lean ====
section
/-!
DEFINITION. One step of the machine, and a command placed where the next step takes it.
-/

namespace Sys2Proof.Machine

/-- One step of I2CM. -/
def step (s : State) : Host.Outcome State Fault Refusal := stepInputs s

/-- The state with a row's word as the next word the host presents. The block fetches nothing (R76): its counterpart is
the command port. -/
def State.withFetchWord (s : State) (nbits w : Nat) : State := presentWord s (BitVec.ofNat 32 (w % 2 ^ nbits))

end Sys2Proof.Machine
end

