-- ==== Sys2Proof/Safety.lean ====
section
/-!
DEFINITION. The terms claims are stated in: the invariant of the machine, when a failed command has left the bus
resolved (R178), which command may follow which (R149), the frames of the two transactions as primitive commands (R96,
R97), the ceilings of R122, and the well-behaved environment of R80.
-/

namespace Sys2Proof.Safety

open Sys2Proof.Machine

/-- What holds of every state a run reaches. -/
structure Inv (s : State) : Prop where
  /-- STATUS bits 2:0 read 0 (R28). -/
  statusLow : s.status.extractLsb' 0 3 = 0#3
  /-- BUDGET is 0 to `POLL_LIMIT` (R31). -/
  budgetLe : s.budget.toNat ≤ Config.pollLimit
  /-- BUDGET is not used up while the Engine is between samples (R111). -/
  budgetPos : ∀ ph kept, s.ctl = .sample ph kept ∨ s.ctl = .wait ph kept → 0 < s.budget.toNat
  /-- SEQ holds S_IDLE whenever BUSY = 0 (R34). -/
  quietSeq : s.busy = false → s.seq = .idle
  /-- BUSY = 0 exactly in E_IDLE (R32, R120). -/
  quietCtl : s.busy = false ↔ s.ctl = .idle
  /-- CTRL keeps what the Launch of a pending phase wrote, with DONE clear (R110, R114, R119). -/
  pendRequest : ∀ ph, s.pend = some ph →
    s.ctrl.done = false ∧ s.ctrl.sta = ph.sta ∧ s.ctrl.sto = ph.sto ∧ s.ctrl.aen = ph.aen
  /-- A disabled Core has ended no phase and drives neither line, and no transaction is under way (R79, R223). -/
  disabled : s.ctrl.en = false →
    s.ctrl.done = false ∧ s.lines = .released ∧ (s.bp = .idle ∨ s.bp = .unknown) ∧ ∀ ph, s.ctl ≠ .read ph

/-- The Engine ended the transaction on the bus with a stop condition or gave the bus up by a release (R178): the last
event is one of the two. -/
def busResolved (s : State) : Bool :=
  match s.trace.getLast? with
  | some .release => true
  | some (.phase .stop .stopCleared) => true
  | _ => false

/-- The rows of the table of R149: the mnemonics of the commands that are legal in a bus phase. -/
def mayFollow : BusPhase → List String
  | .idle => ["INIT", "START", "WRITE_REGISTER", "READ_REGISTER"]
  | .started => ["SEND_ADDRESS"]
  | .tx => ["WRITE_BYTE", "START", "STOP", "WRITE_REGISTER", "READ_REGISTER"]
  | .rx => ["READ_BYTE_ACK", "READ_BYTE_NACK"]
  | .rxLast => ["START", "STOP", "WRITE_REGISTER", "READ_REGISTER"]
  | .unknown => ["INIT", "START", "STOP", "WRITE_REGISTER", "READ_REGISTER"]

/-- The first phase a command launches (R98, R170, R171); `INIT` has none. -/
def firstPhase : Instr → Option Phase
  | .init => none
  | .start => some .start
  | .stop => some .stop
  | .sendAddress dev rw => some (.addr (addrByte dev rw))
  | .writeByte val => some (.tx val)
  | .readByteAck => some (.rx true)
  | .readByteNack => some (.rx false)
  | .writeRegister _ _ _ => some .start
  | .readRegister _ _ _ => some .start

/-- The most phases a command runs (R122). -/
def maxPhases : Instr → Nat
  | .init => 0
  | .start => 1
  | .stop => 1
  | .sendAddress _ _ => 2
  | .writeByte _ => 2
  | .readByteAck => 1
  | .readByteNack => 1
  | .writeRegister _ _ _ => 5
  | .readRegister _ _ len => len.toNat + 6

/-- The ceiling of R122 on the time a command can take, in microseconds. -/
def ceilingUs (i : Instr) : Nat := maxPhases i * Config.budgetUs

/-- An event of a launched phase (R121). -/
def isPhase : Event → Bool
  | .phase _ _ => true
  | _ => false

/-- The frame of `WRITE_REGISTER` as primitive commands (R96, R98). -/
def writeFrame (dev : Addr7) (reg val : Byte) : List Instr :=
  [.start, .sendAddress dev .write, .writeByte reg, .writeByte val, .stop]

/-- The frame of `READ_REGISTER` as primitive commands (R97, R98). -/
def readFrame (dev : Addr7) (reg len : Byte) : List Instr :=
  [.start, .sendAddress dev .write, .writeByte reg, .start, .sendAddress dev .read]
    ++ List.replicate (len.toNat - 1) .readByteAck ++ [.readByteNack, .stop]

/-- The phases of a command that ends `Ok` at every step (R96, R97, R98); `INIT` has none. -/
def framePhases : Instr → List Phase
  | .writeRegister dev reg val => (writeFrame dev reg val).filterMap firstPhase
  | .readRegister dev reg len => (readFrame dev reg len).filterMap firstPhase
  | i => (firstPhase i).toList

/-- The phase of an event (R121). -/
def phaseOf : Event → Option Phase
  | .phase ph _ => some ph
  | _ => none

/-- The byte an event moved through DATA: one sent, ended or not, or one received (R29, R118). -/
def movedByte : Event → Option Byte
  | .phase (.addr b) _ => some b
  | .phase (.tx b) _ => some b
  | .phase (.rx _) (.completed _ d) => d
  | _ => none

/-- The status the Core reported at the end of a phase (R28, R121). -/
def reportedStatus : Event → Option Byte
  | .phase _ (.completed c _) => some c
  | _ => none

/-- The byte of a receive phase that ended `Ok` (R146, R147, R171). -/
def receivedByte : Event → Option Byte
  | .phase (.rx true) (.completed c d) => if c = 0x50#8 then d else none
  | .phase (.rx false) (.completed c d) => if c = 0x58#8 then d else none
  | _ => none

/-- A host that issues commands in order and stops at the first response that is not `Ok` (R224). -/
def runChecked : List Instr → State → Host.Outcome State Fault Refusal
  | [], s => .next s
  | i :: rest, s =>
    match exec i s with
    | .next t => if rspTag t.rsp = 0#2 then runChecked rest t else .next t
    | .fault f => .fault f
    | .refused r => .refused r

/-- The sample of the awaited flag that sees it, for a given answer; `none` where no sample of the budget does (R78). -/
def seenAt (a : Config.Answer) : Option Nat := a.delay.filter fun k => k < Config.pollLimit

/-- The status code of an answer, a multiple of 8 (R28, R78). -/
def codeOf (a : Config.Answer) : Byte := a.code ++ 0#3

/-- The response word of `HardwareStatus(c)` with COUNT = 0 and RDATA = 0 (R92, R93). -/
def statusWord (c : Byte) : Word := 2#2 ++ 0#6 ++ c ++ 0#8 ++ 0#8

/-- A state with a response written (R140): RSP, SEQ at S_IDLE, BUSY at 0, the pulse of rsp_valid. -/
def answered (s : State) (w : Word) : State :=
  { s with rsp := w, rspValid := true, busy := false, seq := .idle, ctl := .idle }

/-- The outcome is the next state `t`, whatever the lines are (log 7). -/
def AnswersAs (o : Host.Outcome State Fault Refusal) (t : State) : Prop :=
  ∃ l : Lines, o = .next { t with lines := l }

/-- What R80 makes the answers of a conforming environment depend on (log 14). -/
structure Bus where
  /-- The master holds the bus (EA1). -/
  held : Bool
  /-- The bus is free to be released (EA5). -/
  releasable : Bool
  /-- A bus line is held low (EA6). -/
  lineLow : Bool
  /-- The addresses of the devices that are not absent (EA6). -/
  devices : List Addr7
  deriving DecidableEq, Repr

/-- The acknowledged status of an address phase, by the direction in its byte (EA2, R94). -/
def addrAckCode (b : Byte) : Byte := if b.getLsbD 0 then 0x40#8 else 0x18#8

/-- The not-acknowledged status of an address phase, by the direction in its byte (EA2, R94). -/
def addrNackCode (b : Byte) : Byte := if b.getLsbD 0 then 0x48#8 else 0x20#8

/-- A conforming Core on a conforming bus (R80): a line held low answers `Never` to every phase (EA6); otherwise a start,
address, transmit or receive phase completes with one of the statuses of EA1 to EA4, the not-acknowledged one when the
addressed device is absent (EA6), and a stop phase is cleared whenever the bus is free to be released (EA5). These are
premises for claims, never part of a step. -/
def conforming (bus : Bus) (ph : Phase) (r : PhaseResult) : Prop :=
  if bus.lineLow then r = .never
  else
    match ph, r with
    | .start, .done _ c _ => c = (if bus.held then 0x10#8 else 0x08#8) ∨ c = 0x38#8
    | .addr b, .done _ c _ =>
      if b.extractLsb' 1 7 ∈ bus.devices then c = addrAckCode b ∨ c = addrNackCode b ∨ c = 0x38#8
      else c = addrNackCode b
    | .tx _, .done _ c _ => c = 0x28#8 ∨ c = 0x30#8 ∨ c = 0x38#8
    | .rx true, .done _ c _ => c = 0x50#8 ∨ c = 0x38#8
    | .rx false, .done _ c _ => c = 0x58#8 ∨ c = 0x38#8
    | .stop, .cleared _ => True
    | .stop, .never => bus.releasable = false
    | _, _ => False

end Sys2Proof.Safety
end

