-- ==== Sys2Proof/Certificates/Slice0/Obligations.lean ====
section
/-!
DEFINITION. The statements for the provers, from the numbered rules of the spec. Wherever a statement gives the whole
next state, every field it does not name is unchanged: that is the command's frame. `AnswersAs` leaves out the two bus
lines, which are the model's own reading (log 7); the script `env` and the counter `draws` are the model's form of the
oracle of R78 (log 1).
-/

open Sys2Proof Sys2Proof.Machine Sys2Proof.Safety

/-! ### Encoding (R85 to R90) -/

/-- R85, R86, R87: decoding the word of a well-formed command gives the command back, whatever its operands. -/
def Obligations.DecodeOfEncode : Prop := ∀ i : Instr, i.wf = true → decode (encode i) = .ok i

/-- R86, R88: a word that decodes is the one word of its command, which is well-formed. -/
def Obligations.EncodeOfDecode : Prop :=
  ∀ (w : Word) (i : Instr), decode w = .ok i → encode i = w ∧ i.wf = true

/-- R87: a word is a command of a row exactly when it matches under the row's mask, and, for `READ_REGISTER`, its bits
7:0 are not 0. -/
def Obligations.OpcodeMapIsExact : Prop :=
  ∀ (w : Word) (r : OpcodeRow), r ∈ opcodeMap →
    ((∃ i, decode w = .ok i ∧ opcodeRow i = r) ↔
      w &&& r.mask = r.mtch ∧ (r.mtch = 0x90000000#32 → w.extractLsb' 0 8 ≠ 0#8))

/-- R89: the checks run in their order and the first that fails gives the reason. -/
def Obligations.DecodeChecksInOrder : Prop :=
  ∀ w : Word,
    let op : BitVec 4 := w.extractLsb' 28 4
    let bad : Prop := ∀ r ∈ opcodeMap, w &&& 0xF0000000#32 = r.mtch → w &&& r.mask ≠ r.mtch
    let undefinedOp : Prop := op = 0x0#4 ∨ 0xA#4 ≤ op
    (undefinedOp → ∃ e, decode w = .error e ∧ e.reason = 0x01#8) ∧
    (¬ undefinedOp → bad → ∃ e, decode w = .error e ∧ e.reason = 0x02#8) ∧
    (¬ undefinedOp → ¬ bad → op = 0x9#4 → w.extractLsb' 0 8 = 0#8 → ∃ e, decode w = .error e ∧ e.reason = 0x03#8) ∧
    (¬ undefinedOp → ¬ bad → (op = 0x9#4 → w.extractLsb' 0 8 ≠ 0#8) → ∃ i, decode w = .ok i)

/-- R87, R100: words written out from the encoding table decode to the commands they stand for. -/
def Obligations.SampleWordsDecode : Prop :=
  decode 0x10000000#32 = .ok .init ∧ decode 0x41620000#32 = .ok (.sendAddress 0x62 .read) ∧
    decode 0x5000008F#32 = .ok (.writeByte 0x8F) ∧ decode 0x80620004#32 = .ok (.writeRegister 0x62 0x00 0x04) ∧
    decode 0x90628F02#32 = .ok (.readRegister 0x62 0x8F 2)

/-- R90: the address byte holds the device address in bits 7:1 and the direction in bit 0. -/
def Obligations.AddressByteFields : Prop :=
  ∀ (dev : Addr7) (rw : Dir),
    (addrByte dev rw).extractLsb' 1 7 = dev ∧ (addrByte dev rw).getLsbD 0 = (rw == .read)

/-- R94, R95, R115: the class depends on bits 7:3 alone, is the one of the table, and every value without a row is
`Other`. -/
def Obligations.ClassifierFollowsTable : Prop :=
  ∀ c : Byte,
    let v := c &&& 0xF8#8
    classify c =
      (if v = 0x08#8 then .startSent else if v = 0x10#8 then .repStartSent
       else if v = 0x18#8 then .addrAck .write else if v = 0x20#8 then .addrNack .write
       else if v = 0x28#8 then .dataTxAck else if v = 0x30#8 then .dataTxNack
       else if v = 0x38#8 then .arbLost
       else if v = 0x40#8 then .addrAck .read else if v = 0x48#8 then .addrNack .read
       else if v = 0x50#8 then .dataRxAck else if v = 0x58#8 then .dataRxNack else .other)

/-! ### Acceptance, ports and reset (R44, R45, R140, R196, R220, R221) -/

/-- R76, R140: a word presented to a block that is not busy is latched in CMDR, BUSY is set, and, when it decodes, the
step runs the command; rsp_valid is over and the word is taken from the inputs (log 2, log 12). -/
def Obligations.StepRunsDecodedCommand : Prop :=
  ∀ (s : State) (w : Word) (i : Instr) (rest : List Input),
    s.busy = false → s.inputs = .command w :: rest → decode w = .ok i →
    step s = exec i { s with rspValid := false, inputs := rest, cmdr := w, busy := true }

/-- R88, R140, R196: an illegal word is answered `Refused(reason)`: RSP, CMDR and BUSY apart, nothing changes. The input taken
and the pulse of rsp_valid are the model's form of the port (log 2, log 12). -/
def Obligations.IllegalWordIsRefused : Prop :=
  ∀ (s : State) (w : Word) (r : Reject) (rest : List Input),
    s.busy = false → s.seq = .idle → s.ctl = .idle → s.inputs = .command w :: rest → decode w = .error r →
    step s = .next { s with
      inputs := rest, cmdr := w, rsp := 3#2 ++ 0#6 ++ r.reason ++ 0#8 ++ 0#8, rspValid := true, busy := false }

/-- R140: a word presented while BUSY = 1 has no effect: the step is the one of a step without a word. -/
def Obligations.WordWhileBusyHasNoEffect : Prop :=
  ∀ (s : State) (w : Word), s.busy = true →
    step { s with inputs := .command w :: s.inputs } = step { s with inputs := .idle :: s.inputs } ∧
    step { s with inputs := .accept w :: s.inputs } = step { s with inputs := .idle :: s.inputs }

/-- R44, R220: a block that is not busy and is given nothing waits; the pulse of rsp_valid is over (log 12). -/
def Obligations.QuietBlockWaits : Prop :=
  ∀ s : State, s.busy = false →
    (∀ rest, s.inputs = .idle :: rest → step s = .next { s with rspValid := false, inputs := rest }) ∧
    (s.inputs = [] → step s = .next { s with rspValid := false })

/-- R45: the values the table states for the state after reset. -/
def Obligations.ResetValues : Prop :=
  State.reset.ctrl.byte = 0x00#8 ∧ State.reset.div = 0x00#8 ∧ State.reset.budget = 0#8 ∧ State.reset.busy = false ∧
    State.reset.seq = .idle ∧ State.reset.idx = 0#8 ∧ State.reset.rspValid = false ∧ State.reset.bp = .idle ∧
    State.reset.pend = none ∧ State.reset.trace = [] ∧ State.reset.lines = .released

/-- R220, R221: `rst` at any moment, also in mid-transaction, puts every register the table gives a value to at that
value, gives no response, and leaves RXBUF as it was. That RXBUF is kept also outside a transaction is the model's
reading (log 11). -/
def Obligations.ResetAtAnyMoment : Prop :=
  ∀ (s : State) (rest : List Input), s.inputs = .reset :: rest →
    ∃ t, step s = .next t ∧ t.ctrl.byte = 0x00#8 ∧ t.div = 0x00#8 ∧ t.budget = 0#8 ∧ t.busy = false ∧
      t.seq = .idle ∧ t.idx = 0#8 ∧ t.rspValid = false ∧ t.bp = .idle ∧ t.pend = none ∧ t.trace = [] ∧
      t.lines = .released ∧ t.ctl = .idle ∧ t.rxbuf = s.rxbuf

/-! ### The primitive commands (R141 to R147) -/

/-- R141: `INIT`, legal in IDLE and UNKNOWN, writes DIV and CTRL, drops what is pending and answers `Ok`. -/
def Obligations.InitCompletes : Prop :=
  ∀ s : State, s.bp = .idle ∨ s.bp = .unknown →
    AnswersAs (exec .init s) (answered { s with
      div := Config.divInit, ctrl := Ctrl.ofByte 0x04#8, pend := none, bp := .idle,
      trace := s.trace ++ [.init] } 0x00000000#32)

/-- R142: `START` of an enabled controller, in every bus phase it is legal in and for every answer. -/
def Obligations.StartEndsAsItsStatusSays : Prop :=
  ∀ (s : State) (a : Config.Answer) (rest : List Config.Answer),
    s.ctrl.en = true → s.bp ∈ [BusPhase.idle, .tx, .rxLast, .unknown] → s.env = a :: rest →
    (∀ k, seenAt a = some k →
      let c := codeOf a
      let s1 : State := { s with
        ctrl := Ctrl.ofByte 0xA4#8, status := c, budget := BitVec.ofNat 8 (Config.pollLimit - k), pend := none,
        env := rest, trace := s.trace ++ [.phase .start (.completed c none)] }
      AnswersAs (exec .start s)
        (if c = 0x08#8 ∨ c = 0x10#8 then answered { s1 with bp := .started } 0x00000000#32
         else if c = 0x38#8 then
           answered { s1 with ctrl := Ctrl.ofByte 0x04#8, bp := .idle, trace := s1.trace ++ [.release] } 0x80380000#32
         else answered { s1 with bp := .unknown } (statusWord c))) ∧
    (seenAt a = none →
      AnswersAs (exec .start s) (answered { s with
        ctrl := Ctrl.ofByte 0x24#8, budget := 0#8, pend := some .start, bp := .unknown, env := rest,
        trace := s.trace ++ [.phase .start .expired] } 0x40000000#32))

/-- R143: `STOP` of an enabled controller, in every bus phase it is legal in: `Ok` when STO is seen cleared, `Timeout`
with the request standing otherwise; the status is not read. -/
def Obligations.StopEndsClearedOrExpired : Prop :=
  ∀ (s : State) (a : Config.Answer) (rest : List Config.Answer),
    s.ctrl.en = true → s.bp ∈ [BusPhase.tx, .rxLast, .unknown] → s.env = a :: rest →
    (∀ k, seenAt a = some k →
      AnswersAs (exec .stop s) (answered { s with
        ctrl := Ctrl.ofByte 0x04#8, budget := BitVec.ofNat 8 (Config.pollLimit - k), pend := none, bp := .idle,
        env := rest, trace := s.trace ++ [.phase .stop .stopCleared] } 0x00000000#32)) ∧
    (seenAt a = none →
      AnswersAs (exec .stop s) (answered { s with
        ctrl := Ctrl.ofByte 0x14#8, budget := 0#8, pend := some .stop, bp := .unknown, env := rest,
        trace := s.trace ++ [.phase .stop .expired] } 0x40000000#32))

/-- R144: `SEND_ADDRESS` of an enabled controller: `Ok` on the acknowledged status of its own direction; on either
not-acknowledged status a stop phase, whose outcome is dropped; a release on any other status; nothing on a timeout. -/
def Obligations.SendAddressEndsAsItsStatusSays : Prop :=
  ∀ (dev : Addr7) (rw : Dir) (s : State) (a : Config.Answer) (rest : List Config.Answer),
    s.ctrl.en = true → s.bp = .started → s.env = a :: rest →
    let b : Byte := dev ++ rw.bit
    let i : Instr := .sendAddress dev rw
    let c := codeOf a
    let good : Byte := if rw = .write then 0x18#8 else 0x40#8
    (∀ k, seenAt a = some k →
      let s1 : State := { s with
        data := b, ctrl := Ctrl.ofByte 0x84#8, status := c, budget := BitVec.ofNat 8 (Config.pollLimit - k),
        pend := none, env := rest, trace := s.trace ++ [.phase (.addr b) (.completed c none)] }
      (c = good →
        AnswersAs (exec i s) (answered { s1 with bp := if rw = .write then .tx else .rx } 0x00000000#32)) ∧
      (c = 0x20#8 ∨ c = 0x48#8 → ∀ a2 rest2, rest = a2 :: rest2 →
        (∀ k2, seenAt a2 = some k2 →
          AnswersAs (exec i s) (answered { s1 with
            ctrl := Ctrl.ofByte 0x04#8, budget := BitVec.ofNat 8 (Config.pollLimit - k2), bp := .idle, env := rest2,
            trace := s1.trace ++ [.phase .stop .stopCleared] } (statusWord c))) ∧
        (seenAt a2 = none →
          AnswersAs (exec i s) (answered { s1 with
            ctrl := Ctrl.ofByte 0x14#8, budget := 0#8, pend := some .stop, bp := .unknown, env := rest2,
            trace := s1.trace ++ [.phase .stop .expired] } (statusWord c)))) ∧
      (c ≠ good → c ≠ 0x20#8 → c ≠ 0x48#8 →
        AnswersAs (exec i s) (answered { s1 with
          ctrl := Ctrl.ofByte 0x04#8, bp := .idle, trace := s1.trace ++ [.release] } (statusWord c)))) ∧
    (seenAt a = none →
      AnswersAs (exec i s) (answered { s with
        data := b, ctrl := Ctrl.ofByte 0x04#8, budget := 0#8, pend := some (.addr b), bp := .unknown, env := rest,
        trace := s.trace ++ [.phase (.addr b) .expired] } 0x40000000#32))

/-- R145: `WRITE_BYTE` of an enabled controller: `Ok` on data acknowledged; a stop phase, its outcome dropped, on data
not acknowledged; a release on any other status; nothing on a timeout. -/
def Obligations.WriteByteEndsAsItsStatusSays : Prop :=
  ∀ (val : Byte) (s : State) (a : Config.Answer) (rest : List Config.Answer),
    s.ctrl.en = true → s.bp = .tx → s.env = a :: rest →
    let i : Instr := .writeByte val
    let c := codeOf a
    (∀ k, seenAt a = some k →
      let s1 : State := { s with
        data := val, ctrl := Ctrl.ofByte 0x84#8, status := c, budget := BitVec.ofNat 8 (Config.pollLimit - k),
        pend := none, env := rest, trace := s.trace ++ [.phase (.tx val) (.completed c none)] }
      (c = 0x28#8 → AnswersAs (exec i s) (answered { s1 with bp := .tx } 0x00000000#32)) ∧
      (c = 0x30#8 → ∀ a2 rest2, rest = a2 :: rest2 →
        (∀ k2, seenAt a2 = some k2 →
          AnswersAs (exec i s) (answered { s1 with
            ctrl := Ctrl.ofByte 0x04#8, budget := BitVec.ofNat 8 (Config.pollLimit - k2), bp := .idle, env := rest2,
            trace := s1.trace ++ [.phase .stop .stopCleared] } 0x80300000#32)) ∧
        (seenAt a2 = none →
          AnswersAs (exec i s) (answered { s1 with
            ctrl := Ctrl.ofByte 0x14#8, budget := 0#8, pend := some .stop, bp := .unknown, env := rest2,
            trace := s1.trace ++ [.phase .stop .expired] } 0x80300000#32))) ∧
      (c ≠ 0x28#8 → c ≠ 0x30#8 →
        AnswersAs (exec i s) (answered { s1 with
          ctrl := Ctrl.ofByte 0x04#8, bp := .idle, trace := s1.trace ++ [.release] } (statusWord c)))) ∧
    (seenAt a = none →
      AnswersAs (exec i s) (answered { s with
        data := val, ctrl := Ctrl.ofByte 0x04#8, budget := 0#8, pend := some (.tx val), bp := .unknown, env := rest,
        trace := s.trace ++ [.phase (.tx val) .expired] } 0x40000000#32))

/-- R146, R148: `READ_BYTE_ACK` of an enabled controller: `Ok` with the byte on `0x50`, a release and no byte on any other
status, nothing on a timeout. The release on a status other than `0x50` and `0x38` is the spec's own choice (D11, U14),
not the source's, and the model follows it (log 20). -/
def Obligations.ReadByteAckEndsAsItsStatusSays : Prop :=
  ∀ (s : State) (a : Config.Answer) (rest : List Config.Answer),
    s.ctrl.en = true → s.bp = .rx → s.env = a :: rest →
    (∀ k, seenAt a = some k →
      let c := codeOf a
      let s1 : State := { s with
        data := a.data, ctrl := Ctrl.ofByte 0xC4#8, status := c, budget := BitVec.ofNat 8 (Config.pollLimit - k),
        pend := none, env := rest, trace := s.trace ++ [.phase (.rx true) (.completed c (some a.data))] }
      AnswersAs (exec .readByteAck s)
        (if c = 0x50#8 then answered { s1 with bp := .rx } (0#24 ++ a.data)
         else answered { s1 with ctrl := Ctrl.ofByte 0x04#8, bp := .idle, trace := s1.trace ++ [.release] }
           (statusWord c))) ∧
    (seenAt a = none →
      AnswersAs (exec .readByteAck s) (answered { s with
        ctrl := Ctrl.ofByte 0x44#8, budget := 0#8, pend := some (.rx true), bp := .unknown, env := rest,
        trace := s.trace ++ [.phase (.rx true) .expired] } 0x40000000#32))

/-- R147, R148: `READ_BYTE_NACK` of an enabled controller: as `READ_BYTE_ACK` with the success status `0x58`, which leads to
RX_LAST. The release on a status other than `0x58` and `0x38` is the spec's own choice (D11, U14), not the source's, and
the model follows it (log 20). -/
def Obligations.ReadByteNackEndsAsItsStatusSays : Prop :=
  ∀ (s : State) (a : Config.Answer) (rest : List Config.Answer),
    s.ctrl.en = true → s.bp = .rx → s.env = a :: rest →
    (∀ k, seenAt a = some k →
      let c := codeOf a
      let s1 : State := { s with
        data := a.data, ctrl := Ctrl.ofByte 0x84#8, status := c, budget := BitVec.ofNat 8 (Config.pollLimit - k),
        pend := none, env := rest, trace := s.trace ++ [.phase (.rx false) (.completed c (some a.data))] }
      AnswersAs (exec .readByteNack s)
        (if c = 0x58#8 then answered { s1 with bp := .rxLast } (0#24 ++ a.data)
         else answered { s1 with ctrl := Ctrl.ofByte 0x04#8, bp := .idle, trace := s1.trace ++ [.release] }
           (statusWord c))) ∧
    (seenAt a = none →
      AnswersAs (exec .readByteNack s) (answered { s with
        ctrl := Ctrl.ofByte 0x04#8, budget := 0#8, pend := some (.rx false), bp := .unknown, env := rest,
        trace := s.trace ++ [.phase (.rx false) .expired] } 0x40000000#32))

/-! ### The register transactions (R170 to R178) -/

/-- R96, R170: `WRITE_REGISTER` answers `Ok` when all five phases end with their success status; the bus has seen the
frame of R96. -/
def Obligations.WriteRegisterSucceeds : Prop :=
  ∀ (dev : Addr7) (reg val : Byte) (s : State) (a0 a1 a2 a3 a4 : Config.Answer) (rest : List Config.Answer) (k : Nat),
    s.ctrl.en = true → s.bp ∈ [BusPhase.idle, .tx, .rxLast, .unknown] → s.env = a0 :: a1 :: a2 :: a3 :: a4 :: rest →
    (∀ a ∈ [a0, a1, a2, a3], seenAt a ≠ none) → seenAt a4 = some k →
    codeOf a0 = 0x08#8 ∨ codeOf a0 = 0x10#8 → codeOf a1 = 0x18#8 → codeOf a2 = 0x28#8 → codeOf a3 = 0x28#8 →
    AnswersAs (exec (.writeRegister dev reg val) s) (answered { s with
      ctrl := Ctrl.ofByte 0x04#8, status := 0x28#8, data := val, budget := BitVec.ofNat 8 (Config.pollLimit - k),
      pend := none, bp := .idle, env := rest,
      trace := s.trace ++ [.phase .start (.completed (codeOf a0) none),
        .phase (.addr (dev ++ 0#1)) (.completed 0x18#8 none), .phase (.tx reg) (.completed 0x28#8 none),
        .phase (.tx val) (.completed 0x28#8 none), .phase .stop .stopCleared] } 0x00000000#32)

/-- R67, R97, R171, R177: `READ_REGISTER` of 1 to 255 bytes answers `Ok` when all `LEN` + 6 phases end with their success
status: the bytes stand in RXBUF in the order received, the last of them also in DATA, all but the last acknowledged,
COUNT = IDX = `LEN`, and the bus has seen the frame of R97. -/
def Obligations.ReadRegisterDeliversBytes : Prop :=
  ∀ (dev : Addr7) (reg len : Byte) (s : State) (a0 a1 a2 a3 a4 a5 : Config.Answer) (rx rest : List Config.Answer)
    (k : Nat),
    s.ctrl.en = true → s.bp ∈ [BusPhase.idle, .tx, .rxLast, .unknown] → len ≠ 0#8 →
    s.env = a0 :: a1 :: a2 :: a3 :: a4 :: (rx ++ a5 :: rest) → rx.length = len.toNat →
    (∀ a ∈ a0 :: a1 :: a2 :: a3 :: a4 :: rx, seenAt a ≠ none) → seenAt a5 = some k →
    codeOf a0 = 0x08#8 ∨ codeOf a0 = 0x10#8 → codeOf a1 = 0x18#8 → codeOf a2 = 0x28#8 →
    codeOf a3 = 0x08#8 ∨ codeOf a3 = 0x10#8 → codeOf a4 = 0x40#8 →
    (∀ j (h : j < rx.length), codeOf rx[j] = if j + 1 < len.toNat then 0x50#8 else 0x58#8) →
    ∃ t, exec (.readRegister dev reg len) s = .next t ∧
      t.rsp = 0#16 ++ len ++ 0#8 ∧ t.idx = len ∧ t.bp = .idle ∧ t.ctrl = Ctrl.ofByte 0x04#8 ∧ t.pend = none ∧
      t.status = 0x58#8 ∧ t.budget = BitVec.ofNat 8 (Config.pollLimit - k) ∧ t.env = rest ∧
      (∀ h : rx ≠ [], t.data = (rx.getLast h).data) ∧
      (∀ j (h : j < rx.length), rxbufRead t.rxbuf (BitVec.ofNat 8 j) = some rx[j].data) ∧
      (∀ j : Byte, len ≤ j → rxbufRead t.rxbuf j = rxbufRead s.rxbuf j) ∧
      t.trace = s.trace ++ [.phase .start (.completed (codeOf a0) none),
          .phase (.addr (dev ++ 0#1)) (.completed 0x18#8 none), .phase (.tx reg) (.completed 0x28#8 none),
          .phase .start (.completed (codeOf a3) none), .phase (.addr (dev ++ 1#1)) (.completed 0x40#8 none)]
        ++ rx.mapIdx (fun j a => .phase (.rx (decide (j + 1 < len.toNat))) (.completed (codeOf a) (some a.data)))
        ++ [.phase .stop .stopCleared]

/-- R96, R170, R172, R173: `WRITE_REGISTER` is its frame of primitive commands, each issued only after the one before
ended `Ok`, in every state and for every answer of the environment: the same next state, or the same refusal. -/
def Obligations.WriteRegisterIsItsFrame : Prop :=
  ∀ (dev : Addr7) (reg val : Byte) (s : State),
    exec (.writeRegister dev reg val) s = runChecked (writeFrame dev reg val) s

/-- R97, R171, R172, R173: `READ_REGISTER` is its frame of primitive commands in every state and for every answer: it
differs from it only in where the bytes go and in COUNT and RDATA of the response. -/
def Obligations.ReadRegisterIsItsFrame : Prop :=
  ∀ (dev : Addr7) (reg len : Byte) (s : State), len ≠ 0#8 →
    (∃ t u, exec (.readRegister dev reg len) s = .next t ∧ runChecked (readFrame dev reg len) s = .next u ∧
      u = { t with rsp := u.rsp, rxbuf := s.rxbuf, idx := s.idx } ∧
      rspTag t.rsp = rspTag u.rsp ∧ rspCode t.rsp = rspCode u.rsp) ∨
    (∃ r, exec (.readRegister dev reg len) s = .refused r ∧ runChecked (readFrame dev reg len) s = .refused r)

/-- R171, R175: after `READ_REGISTER`, whatever its outcome, the entries below IDX are the bytes of the receive phases that
ended `Ok`, in the order received, and the entries from IDX on keep what they held. COUNT = IDX is at most `LEN`, and is
`LEN` when the outcome is `Ok` or only the final stop failed. -/
def Obligations.ReadRegisterCountAndBuffer : Prop :=
  ∀ (dev : Addr7) (reg len : Byte) (s t : State), len ≠ 0#8 → exec (.readRegister dev reg len) s = .next t →
    rspCount t.rsp = t.idx ∧ rspRdata t.rsp = 0#8 ∧ t.idx ≤ len ∧ (rspTag t.rsp = 0#2 → t.idx = len) ∧
      (rspTag t.rsp = 1#2 → t.trace.getLast? = some (.phase .stop .expired) → t.idx = len) ∧
      (∃ new, t.trace = s.trace ++ new ∧ (new.filterMap receivedByte).length = t.idx.toNat ∧
        ∀ (j : Nat) (d : Byte), (new.filterMap receivedByte)[j]? = some d →
          rxbufRead t.rxbuf (BitVec.ofNat 8 j) = some d) ∧
      ∀ j : Byte, t.idx ≤ j → rxbufRead t.rxbuf j = rxbufRead s.rxbuf j

/-! ### Outcomes, recovery and order (R40, R92, R93, R119, R122, R148 to R151, R178, R223) -/

/-- R92, R93, R140: every command that answers ends with SEQ at S_IDLE, BUSY at 0 and rsp_valid, a tag other than
`Refused`, zeros in bits 29:24, COUNT = 0 unless it is `READ_REGISTER`, CODE = 0 under the tags `Ok` and `Timeout`, and
under `HardwareStatus` the value of STATUS, unmodified (R40). -/
def Obligations.ResponseOfEveryCommand : Prop :=
  ∀ (i : Instr) (s t : State), i.wf = true → exec i s = .next t →
    t.seq = .idle ∧ t.busy = false ∧ t.rspValid = true ∧ rspTag t.rsp ≠ 3#2 ∧ t.rsp.extractLsb' 24 6 = 0#6 ∧
      (i.mnemonic ≠ "READ_REGISTER" → rspCount t.rsp = 0#8) ∧
      (rspTag t.rsp ≠ 2#2 → rspCode t.rsp = 0#8) ∧ (rspTag t.rsp = 2#2 → rspCode t.rsp = t.status)

/-- R149, R150: with the controller enabled, a command answers a next state exactly in the bus phases the table of R149
lists it for, and the model refuses it by name in every other (log 5). -/
def Obligations.CommandsRunExactlyInTheirOrder : Prop :=
  ∀ (i : Instr) (s : State), i.wf = true → s.ctrl.en = true →
    (i.mnemonic ∈ mayFollow s.bp → ∃ t, exec i s = .next t) ∧
    (i.mnemonic ∉ mayFollow s.bp → exec i s = .refused (.outOfOrder s.bp))

/-- R79, R223: with the controller disabled, every command but `INIT` runs, whatever the order, and ends with `Timeout`
after one budget: its first phase is launched and left pending, BP becomes UNKNOWN. That the order does
not matter is the model's reading of R223 beside R150 (log 5), that no answer is consumed its form of R79 (log 16), and
that the lines are left alone its reading of R79 (log 7). -/
def Obligations.DisabledCommandTimesOut : Prop :=
  ∀ (i : Instr) (s : State), i.wf = true → s.ctrl.en = false → i ≠ .init →
    ∃ ph, firstPhase i = some ph ∧
      exec i s = .next (answered { s with
        data := ph.sends.getD s.data
        ctrl := { done := false, aen := ph == .rx true, sta := ph == .start, sto := ph == .stop, en := false }
        budget := 0#8
        idx := if i.mnemonic = "READ_REGISTER" then 0#8 else s.idx
        pend := some ph
        bp := .unknown
        trace := s.trace ++ [.phase ph .expired] } 0x40000000#32)

/-- R119, R192: with the controller enabled, a command whose first phase is not seen within the budget ends with
`Timeout` and nothing else is done to the Core: no stop, no release, the request stands, the phase stays pending. -/
def Obligations.TimeoutRecoversNothing : Prop :=
  ∀ (i : Instr) (s : State) (a : Config.Answer) (rest : List Config.Answer),
    i.wf = true → s.ctrl.en = true → i ≠ .init → i.mnemonic ∈ mayFollow s.bp → s.env = a :: rest → seenAt a = none →
    ∃ ph, firstPhase i = some ph ∧
      AnswersAs (exec i s) (answered { s with
        data := ph.sends.getD s.data
        ctrl := { done := false, aen := ph == .rx true, sta := ph == .start, sto := ph == .stop, en := true }
        budget := 0#8
        idx := if i.mnemonic = "READ_REGISTER" then 0#8 else s.idx
        pend := some ph
        bp := .unknown
        env := rest
        trace := s.trace ++ [.phase ph .expired] } 0x40000000#32)

/-- R148, R178: after any outcome but `Ok` either the Engine has resolved the bus (its last act is a release or a cleared
stop) and BP is IDLE, or it has not and BP is UNKNOWN; after a `Timeout` it never has. -/
def Obligations.FailureLeavesBusResolvedOrUnknown : Prop :=
  ∀ (i : Instr) (s t : State), i.wf = true → exec i s = .next t → rspTag t.rsp ≠ 0#2 →
    ((t.bp = .idle ∧ busResolved t = true) ∨ (t.bp = .unknown ∧ busResolved t = false)) ∧
      (rspTag t.rsp = 1#2 → t.bp = .unknown)

/-- R178: failures that leave the bus unresolved exist: a timeout, a start status outside the three named ones, and a
recovery stop that expires. -/
def Obligations.UnresolvedFailuresExist : Prop :=
  (∃ s t, exec .start s = .next t ∧ rspTag t.rsp = 1#2 ∧ busResolved t = false) ∧
  (∃ s t, exec .start s = .next t ∧ t.rsp = 0x80280000#32 ∧ t.ctrl.byte = 0xA4#8 ∧ busResolved t = false) ∧
  (∃ s t, exec (.writeRegister 0x62 0x00 0x04) s = .next t ∧ t.rsp = 0x80200000#32 ∧ t.bp = .unknown ∧
    busResolved t = false)

/-- R122, R151, R173: the phases a command runs are a beginning of its frame and after it at most one recovery stop, and
they are no more than R122 counts. -/
def Obligations.PhasesOfACommandAreBounded : Prop :=
  ∀ (i : Instr) (s t : State), exec i s = .next t →
    ∃ new, t.trace = s.trace ++ new ∧ (new.filter isPhase).length ≤ maxPhases i ∧
      ∃ p, p <+: framePhases i ∧ (new.filterMap phaseOf = p ∨ new.filterMap phaseOf = p ++ [.stop])

/-- R26, R30, R33, R35, R37, R42: what a command other than `INIT` leaves unchanged: DIV, CMDR, EN, the inputs, the
events already in TRACE, and, unless it is `READ_REGISTER`, RXBUF and IDX. -/
def Obligations.FrameOfPolledCommands : Prop :=
  ∀ (i : Instr) (s t : State), i ≠ .init → exec i s = .next t →
    t.div = s.div ∧ t.cmdr = s.cmdr ∧ t.ctrl.en = s.ctrl.en ∧ t.inputs = s.inputs ∧ s.trace <+: t.trace ∧
      (i.mnemonic ≠ "READ_REGISTER" → t.rxbuf = s.rxbuf ∧ t.idx = s.idx)

/-- R28, R29, R118, R141 to R147: what a command leaves in DATA and STATUS: DATA the last byte it sent or received, STATUS the
last status reported to it, each unchanged where there is none. So `INIT` and `STOP` write neither, `START` writes no DATA,
and a phase that sends a byte leaves that byte in DATA. -/
def Obligations.DataAndStatusFrame : Prop :=
  ∀ s t : State,
    (∀ i, exec i s = .next t → ∃ new, t.trace = s.trace ++ new ∧
      t.data = (new.filterMap movedByte).getLast?.getD s.data ∧
      t.status = (new.filterMap reportedStatus).getLast?.getD s.status) ∧
    (exec .init s = .next t ∨ exec .stop s = .next t → t.data = s.data ∧ t.status = s.status) ∧
    (exec .start s = .next t → t.data = s.data) ∧
    (∀ dev rw, exec (.sendAddress dev rw) s = .next t → t.data = dev ++ rw.bit) ∧
    (∀ val, exec (.writeByte val) s = .next t → t.data = val)

/-- R80, R142: under EA1 (log 14), a conforming answer to a start phase with no line held low, `START` never ends unresolved: it answers `Ok` in
STARTED, or arbitration lost after a release, in IDLE. -/
def Obligations.ConformingStartIsResolved : Prop :=
  ∀ (bus : Bus) (s : State) (a : Config.Answer) (rest : List Config.Answer),
    s.ctrl.en = true → s.bp ∈ [BusPhase.idle, .tx, .rxLast, .unknown] → s.env = a :: rest →
    bus.lineLow = false → conforming bus .start (resultOf a .start) →
    ∃ t, exec .start s = .next t ∧
      ((t.rsp = 0x00000000#32 ∧ t.bp = .started) ∨ (t.rsp = 0x80380000#32 ∧ t.bp = .idle ∧ busResolved t = true))

/-- R80, R144: under EA2, EA5 and EA6 (log 14), an absent device on a bus that is free to be released is answered with the
not-acknowledged status of the direction, and the stop that follows resolves the bus. -/
def Obligations.AbsentDeviceIsNotAcknowledged : Prop :=
  ∀ (bus bus2 : Bus) (dev : Addr7) (rw : Dir) (s : State) (a a2 : Config.Answer) (rest : List Config.Answer),
    s.ctrl.en = true → s.bp = .started → s.env = a :: a2 :: rest →
    bus.lineLow = false → dev ∉ bus.devices →
    conforming bus (.addr (addrByte dev rw)) (resultOf a (.addr (addrByte dev rw))) →
    bus2.lineLow = false → bus2.releasable = true → conforming bus2 .stop (resultOf a2 .stop) →
    ∃ t, exec (.sendAddress dev rw) s = .next t ∧
      t.rsp = (if rw = .write then 0x80200000#32 else 0x80480000#32) ∧ t.bp = .idle ∧ t.ctrl = Ctrl.ofByte 0x04#8 ∧
      busResolved t = true

/-- R80, R119: under EA6 (log 14), with a bus line held low every command that runs a phase times out at its first. -/
def Obligations.HeldLineTimesOut : Prop :=
  ∀ (bus : Bus) (i : Instr) (ph : Phase) (s : State) (a : Config.Answer) (rest : List Config.Answer),
    i.wf = true → s.ctrl.en = true → i.mnemonic ∈ mayFollow s.bp → firstPhase i = some ph → s.env = a :: rest →
    bus.lineLow = true → conforming bus ph (resultOf a ph) →
    ∃ t, exec i s = .next t ∧ t.rsp = 0x40000000#32 ∧ t.bp = .unknown ∧ t.pend = some ph ∧
      t.trace = s.trace ++ [.phase ph .expired]

/-! ### Late completion (R39, R114) -/

/-- R39, R114: a phase still pending in an enabled Core may complete at any step: DONE, STATUS, and DATA for a receive;
STO for a stop; no event is added. With nothing pending, or with EN = 0, nothing happens. The input that
stands for the completion is the model's form of it (log 10). -/
def Obligations.LateCompletion : Prop :=
  ∀ (s : State) (code : BitVec 5) (d : Byte) (rest : List Input), s.inputs = .coreComplete code d :: rest →
    let s0 : State := { s with rspValid := false, inputs := rest }
    (s.pend = none ∨ s.ctrl.en = false → step s = .next s0) ∧
    (s.pend = some .stop → s.ctrl.en = true →
      AnswersAs (step s) { s0 with ctrl := { s.ctrl with sto := false }, pend := none }) ∧
    (∀ ph, s.pend = some ph → ph ≠ .stop → s.ctrl.en = true →
      AnswersAs (step s) { s0 with
        ctrl := { s.ctrl with done := true }, status := code ++ 0#3
        data := if ph = .rx true ∨ ph = .rx false then d else s.data, pend := none })

/-- R39, R110, R114: a late completion changes no later command: whether or not it came first, the command answers the
same, and all it leaves differs at most in STATUS and DATA, which no rule reads before they are written. -/
def Obligations.LateCompletionChangesNoCommand : Prop :=
  ∀ (i : Instr) (s t : State) (code : BitVec 5) (d : Byte), i.wf = true → exec i s = .next t →
    ∃ u, exec i (s.coreComplete code d) = .next u ∧ u = { t with status := u.status, data := u.data }

/-! ### The micro-steps (R111, R113, R114, R120) -/

/-- R111 to R114: a completion that comes before sample `k` and after sample `k` - 1, in the wait between them or before
that wait, is seen at sample `k`, with BUDGET = `POLL_LIMIT` - `k`: DONE by the poll of a phase that is no stop, STO = 0 by
the poll of a stop, which ends there with `Ok` or the outcome kept aside (R117, R203; the control state is log 22). -/
def Obligations.MicroPollSeesCompletion : Prop :=
  ∀ (s : State) (ph : Phase) (kept : Option BusOutcome) (k m : Nat) (code : BitVec 5) (d : Byte) (rest : List Input),
    k < Config.pollLimit → m = 2 * k ∨ m + 1 = 2 * k → s.busy = true → s.ctl = .sample ph kept →
    s.budget = BitVec.ofNat 8 Config.pollLimit → (ph ≠ .stop → s.ctrl.done = false) →
    (ph = .stop → s.ctrl.sto = true) → s.ctrl.en = true → s.pend = some ph →
    s.inputs = List.replicate m .idle ++ .coreComplete code d :: (List.replicate (2 * k + 1 - m) .idle ++ rest) →
    let s1 : State := { s with
      pend := none, budget := BitVec.ofNat 8 (Config.pollLimit - k), rspValid := false, inputs := rest }
    (ph ≠ .stop → Host.Core.run core (2 * k + 2) s = .next { s1 with
      ctl := .read ph, ctrl := { s.ctrl with done := true }, status := code ++ 0#3,
      data := if ph = .rx true ∨ ph = .rx false then d else s.data }) ∧
    (ph = .stop → AnswersAs (Host.Core.run core (2 * k + 2) s) { s1 with
      ctl := .next (kept.getD .ok) 0#8, ctrl := { s.ctrl with sto := false }, bp := .idle,
      trace := s.trace ++ [.phase .stop .stopCleared] })

/-- R111, R112, R119: a flag that no sample sees expires after exactly `POLL_LIMIT` samples and as many waits: BUDGET is
0, one event is added, BP becomes UNKNOWN, and the Core is left as it stands (the control state
in which this is done is log 22). -/
def Obligations.MicroPollExpires : Prop :=
  ∀ (s : State) (ph : Phase) (kept : Option BusOutcome) (rest : List Input),
    s.busy = true → s.ctl = .sample ph kept → s.budget = BitVec.ofNat 8 Config.pollLimit →
    (ph ≠ .stop → s.ctrl.done = false) → (ph = .stop → s.ctrl.sto = true) →
    s.inputs = List.replicate (2 * Config.pollLimit) .idle ++ rest →
    Host.Core.run core (2 * Config.pollLimit) s = .next { s with
      ctl := .next (kept.getD .timeout) 0#8, budget := 0#8, bp := .unknown,
      trace := s.trace ++ [.phase ph .expired], rspValid := false, inputs := rest }

/-- R8, R114, R120: every command run in one big step is also run by the micro-steps of the Engine, from acceptance to
response, with the Core completing its phases in between: the same state but for the oracle's script, which the
micro-steps do not read (log 4). -/
def Obligations.MicroStepsRunEveryCommand : Prop :=
  ∀ (s t : State) (w : Word), s.busy = false → s.ctl = .idle →
    step { s with inputs := [.command w] } = .next t →
    ∃ ins : List Input, (∀ inp ∈ ins, inp = .idle ∨ ∃ code d, inp = .coreComplete code d) ∧
      Host.Core.run core (ins.length + 1) { s with inputs := .accept w :: ins } =
        .next { t with env := s.env, draws := s.draws }

/-! ### Invariants -/

/-- R28, R31, R34, R79, R119, R220: the invariant holds after reset. -/
def Obligations.ResetMeetsInvariant : Prop := Inv State.reset

/-- R28, R31, R32, R34, R39, R79, R119: every step, of a whole command, of a micro-step of the Engine, of the environment
or a reset, keeps the invariant, from every state that meets it. -/
def Obligations.EveryStepKeepsInvariant : Prop :=
  ∀ s t : State, Inv s → step s = .next t → Inv t

/-- R42, R121: TRACE only grows, at every step but a reset. -/
def Obligations.TraceOnlyGrows : Prop :=
  ∀ s t : State, s.inputs.head? ≠ some .reset → step s = .next t → s.trace <+: t.trace

/-- R26: once the controller is enabled, only a reset disables it. -/
def Obligations.OnlyResetDisables : Prop :=
  ∀ s t : State, s.inputs.head? ≠ some .reset → s.ctrl.en = true → step s = .next t → t.ctrl.en = true

/-- R116, R120: the release micro-step of a busy Engine writes CTRL = `0x04`, drops the pending phase, lets go of the
lines, sends no stop condition, and keeps STATUS, DATA and DIV. -/
def Obligations.ReleaseMicroStep : Prop :=
  ∀ (s : State) (o : BusOutcome), s.busy = true → s.ctl = .release o → s.inputs = [] →
    step s = .next { s with
      ctrl := Ctrl.ofByte 0x04#8, pend := none, bp := .idle, lines := .released, trace := s.trace ++ [.release],
      rspValid := false, ctl := .next o 0#8 }
end

