-- ==== Sys2Proof/Laws/Decode.lean ====
section
/-!
SUPPORT. A word is its fields and the fields are a word (R85); the direction bit; the rows of the opcode map are
disjoint (R87).
-/

namespace Sys2Proof

@[simp] theorem Dir.ofBit_bit (d : Dir) : Dir.ofBit d.bit = d := by cases d <;> rfl

@[simp] theorem Dir.bit_ofBit (b : BitVec 1) : (Dir.ofBit b).bit = b := by
  revert b; decide

/-- Reading back the fields a word was put together from gives them. -/
@[simp] theorem Fields.split_join (f : Fields) : Fields.split f.join = f := by
  obtain ⟨op, rsvA, rw, rsvB, dev, reg, val⟩ := f
  simp only [Fields.split, Fields.join, Fields.mk.injEq]
  refine ⟨?_, ?_, ?_, ?_, ?_, ?_, ?_⟩ <;>
  · ext i hi
    simp only [BitVec.getElem_extractLsb', BitVec.getLsbD_append]
    interval_cases i <;> simp [BitVec.getLsbD_eq_getElem]

/-- Putting the fields of a word together gives the word. -/
@[simp] theorem Fields.join_split (w : Word) : (Fields.split w).join = w := by
  simp only [Fields.split, Fields.join]
  ext i hi
  simp only [BitVec.getElem_append, BitVec.getElem_extractLsb']
  interval_cases i <;> simp [BitVec.getLsbD_eq_getElem]

/-- No word is in two rows of the opcode map: two masks share bits on which the matches differ. -/
theorem opcodeMap_disjoint :
    opcodeMap.Pairwise fun r r' => r.mask &&& r'.mask &&& (r.mtch ^^^ r'.mtch) ≠ 0#32 := by
  decide

end Sys2Proof
end

