-- ==== Sys2Proof/Laws/State.lean ====
section
/-!
SUPPORT. One lemma per field for every named update of the state, true by unfolding the update once.
-/

namespace Sys2Proof.Machine

@[simp] theorem State.emit_ctrl (s : State) (e : Event) : (s.emit e).ctrl = s.ctrl := rfl
@[simp] theorem State.emit_status (s : State) (e : Event) : (s.emit e).status = s.status := rfl
@[simp] theorem State.emit_data (s : State) (e : Event) : (s.emit e).data = s.data := rfl
@[simp] theorem State.emit_div (s : State) (e : Event) : (s.emit e).div = s.div := rfl
@[simp] theorem State.emit_budget (s : State) (e : Event) : (s.emit e).budget = s.budget := rfl
@[simp] theorem State.emit_busy (s : State) (e : Event) : (s.emit e).busy = s.busy := rfl
@[simp] theorem State.emit_cmdr (s : State) (e : Event) : (s.emit e).cmdr = s.cmdr := rfl
@[simp] theorem State.emit_seq (s : State) (e : Event) : (s.emit e).seq = s.seq := rfl
@[simp] theorem State.emit_idx (s : State) (e : Event) : (s.emit e).idx = s.idx := rfl
@[simp] theorem State.emit_rsp (s : State) (e : Event) : (s.emit e).rsp = s.rsp := rfl
@[simp] theorem State.emit_rspValid (s : State) (e : Event) : (s.emit e).rspValid = s.rspValid := rfl
@[simp] theorem State.emit_rxbuf (s : State) (e : Event) : (s.emit e).rxbuf = s.rxbuf := rfl
@[simp] theorem State.emit_bp (s : State) (e : Event) : (s.emit e).bp = s.bp := rfl
@[simp] theorem State.emit_pend (s : State) (e : Event) : (s.emit e).pend = s.pend := rfl
@[simp] theorem State.emit_trace (s : State) (e : Event) : (s.emit e).trace = s.trace ++ [e] := rfl
@[simp] theorem State.emit_lines (s : State) (e : Event) : (s.emit e).lines = s.lines := rfl
@[simp] theorem State.emit_ctl (s : State) (e : Event) : (s.emit e).ctl = s.ctl := rfl
@[simp] theorem State.emit_inputs (s : State) (e : Event) : (s.emit e).inputs = s.inputs := rfl
@[simp] theorem State.emit_env (s : State) (e : Event) : (s.emit e).env = s.env := rfl
@[simp] theorem State.emit_draws (s : State) (e : Event) : (s.emit e).draws = s.draws := rfl

@[simp] theorem State.setBp_ctrl (s : State) (p : BusPhase) : (s.setBp p).ctrl = s.ctrl := rfl
@[simp] theorem State.setBp_status (s : State) (p : BusPhase) : (s.setBp p).status = s.status := rfl
@[simp] theorem State.setBp_data (s : State) (p : BusPhase) : (s.setBp p).data = s.data := rfl
@[simp] theorem State.setBp_div (s : State) (p : BusPhase) : (s.setBp p).div = s.div := rfl
@[simp] theorem State.setBp_budget (s : State) (p : BusPhase) : (s.setBp p).budget = s.budget := rfl
@[simp] theorem State.setBp_busy (s : State) (p : BusPhase) : (s.setBp p).busy = s.busy := rfl
@[simp] theorem State.setBp_cmdr (s : State) (p : BusPhase) : (s.setBp p).cmdr = s.cmdr := rfl
@[simp] theorem State.setBp_seq (s : State) (p : BusPhase) : (s.setBp p).seq = s.seq := rfl
@[simp] theorem State.setBp_idx (s : State) (p : BusPhase) : (s.setBp p).idx = s.idx := rfl
@[simp] theorem State.setBp_rsp (s : State) (p : BusPhase) : (s.setBp p).rsp = s.rsp := rfl
@[simp] theorem State.setBp_rspValid (s : State) (p : BusPhase) : (s.setBp p).rspValid = s.rspValid := rfl
@[simp] theorem State.setBp_rxbuf (s : State) (p : BusPhase) : (s.setBp p).rxbuf = s.rxbuf := rfl
@[simp] theorem State.setBp_bp (s : State) (p : BusPhase) : (s.setBp p).bp = p := rfl
@[simp] theorem State.setBp_pend (s : State) (p : BusPhase) : (s.setBp p).pend = s.pend := rfl
@[simp] theorem State.setBp_trace (s : State) (p : BusPhase) : (s.setBp p).trace = s.trace := rfl
@[simp] theorem State.setBp_lines (s : State) (p : BusPhase) : (s.setBp p).lines = s.lines := rfl
@[simp] theorem State.setBp_ctl (s : State) (p : BusPhase) : (s.setBp p).ctl = s.ctl := rfl
@[simp] theorem State.setBp_inputs (s : State) (p : BusPhase) : (s.setBp p).inputs = s.inputs := rfl
@[simp] theorem State.setBp_env (s : State) (p : BusPhase) : (s.setBp p).env = s.env := rfl
@[simp] theorem State.setBp_draws (s : State) (p : BusPhase) : (s.setBp p).draws = s.draws := rfl

@[simp] theorem State.setSeq_ctrl (s : State) (q : Seq) : (s.setSeq q).ctrl = s.ctrl := rfl
@[simp] theorem State.setSeq_status (s : State) (q : Seq) : (s.setSeq q).status = s.status := rfl
@[simp] theorem State.setSeq_data (s : State) (q : Seq) : (s.setSeq q).data = s.data := rfl
@[simp] theorem State.setSeq_div (s : State) (q : Seq) : (s.setSeq q).div = s.div := rfl
@[simp] theorem State.setSeq_budget (s : State) (q : Seq) : (s.setSeq q).budget = s.budget := rfl
@[simp] theorem State.setSeq_busy (s : State) (q : Seq) : (s.setSeq q).busy = s.busy := rfl
@[simp] theorem State.setSeq_cmdr (s : State) (q : Seq) : (s.setSeq q).cmdr = s.cmdr := rfl
@[simp] theorem State.setSeq_seq (s : State) (q : Seq) : (s.setSeq q).seq = q := rfl
@[simp] theorem State.setSeq_idx (s : State) (q : Seq) : (s.setSeq q).idx = s.idx := rfl
@[simp] theorem State.setSeq_rsp (s : State) (q : Seq) : (s.setSeq q).rsp = s.rsp := rfl
@[simp] theorem State.setSeq_rspValid (s : State) (q : Seq) : (s.setSeq q).rspValid = s.rspValid := rfl
@[simp] theorem State.setSeq_rxbuf (s : State) (q : Seq) : (s.setSeq q).rxbuf = s.rxbuf := rfl
@[simp] theorem State.setSeq_bp (s : State) (q : Seq) : (s.setSeq q).bp = s.bp := rfl
@[simp] theorem State.setSeq_pend (s : State) (q : Seq) : (s.setSeq q).pend = s.pend := rfl
@[simp] theorem State.setSeq_trace (s : State) (q : Seq) : (s.setSeq q).trace = s.trace := rfl
@[simp] theorem State.setSeq_lines (s : State) (q : Seq) : (s.setSeq q).lines = s.lines := rfl
@[simp] theorem State.setSeq_ctl (s : State) (q : Seq) : (s.setSeq q).ctl = s.ctl := rfl
@[simp] theorem State.setSeq_inputs (s : State) (q : Seq) : (s.setSeq q).inputs = s.inputs := rfl
@[simp] theorem State.setSeq_env (s : State) (q : Seq) : (s.setSeq q).env = s.env := rfl
@[simp] theorem State.setSeq_draws (s : State) (q : Seq) : (s.setSeq q).draws = s.draws := rfl

@[simp] theorem State.setCtl_ctrl (s : State) (c : Control) : (s.setCtl c).ctrl = s.ctrl := rfl
@[simp] theorem State.setCtl_status (s : State) (c : Control) : (s.setCtl c).status = s.status := rfl
@[simp] theorem State.setCtl_data (s : State) (c : Control) : (s.setCtl c).data = s.data := rfl
@[simp] theorem State.setCtl_div (s : State) (c : Control) : (s.setCtl c).div = s.div := rfl
@[simp] theorem State.setCtl_budget (s : State) (c : Control) : (s.setCtl c).budget = s.budget := rfl
@[simp] theorem State.setCtl_busy (s : State) (c : Control) : (s.setCtl c).busy = s.busy := rfl
@[simp] theorem State.setCtl_cmdr (s : State) (c : Control) : (s.setCtl c).cmdr = s.cmdr := rfl
@[simp] theorem State.setCtl_seq (s : State) (c : Control) : (s.setCtl c).seq = s.seq := rfl
@[simp] theorem State.setCtl_idx (s : State) (c : Control) : (s.setCtl c).idx = s.idx := rfl
@[simp] theorem State.setCtl_rsp (s : State) (c : Control) : (s.setCtl c).rsp = s.rsp := rfl
@[simp] theorem State.setCtl_rspValid (s : State) (c : Control) : (s.setCtl c).rspValid = s.rspValid := rfl
@[simp] theorem State.setCtl_rxbuf (s : State) (c : Control) : (s.setCtl c).rxbuf = s.rxbuf := rfl
@[simp] theorem State.setCtl_bp (s : State) (c : Control) : (s.setCtl c).bp = s.bp := rfl
@[simp] theorem State.setCtl_pend (s : State) (c : Control) : (s.setCtl c).pend = s.pend := rfl
@[simp] theorem State.setCtl_trace (s : State) (c : Control) : (s.setCtl c).trace = s.trace := rfl
@[simp] theorem State.setCtl_lines (s : State) (c : Control) : (s.setCtl c).lines = s.lines := rfl
@[simp] theorem State.setCtl_ctl (s : State) (c : Control) : (s.setCtl c).ctl = c := rfl
@[simp] theorem State.setCtl_inputs (s : State) (c : Control) : (s.setCtl c).inputs = s.inputs := rfl
@[simp] theorem State.setCtl_env (s : State) (c : Control) : (s.setCtl c).env = s.env := rfl
@[simp] theorem State.setCtl_draws (s : State) (c : Control) : (s.setCtl c).draws = s.draws := rfl

@[simp] theorem State.clearIdx_ctrl (s : State) : (s.clearIdx).ctrl = s.ctrl := rfl
@[simp] theorem State.clearIdx_status (s : State) : (s.clearIdx).status = s.status := rfl
@[simp] theorem State.clearIdx_data (s : State) : (s.clearIdx).data = s.data := rfl
@[simp] theorem State.clearIdx_div (s : State) : (s.clearIdx).div = s.div := rfl
@[simp] theorem State.clearIdx_budget (s : State) : (s.clearIdx).budget = s.budget := rfl
@[simp] theorem State.clearIdx_busy (s : State) : (s.clearIdx).busy = s.busy := rfl
@[simp] theorem State.clearIdx_cmdr (s : State) : (s.clearIdx).cmdr = s.cmdr := rfl
@[simp] theorem State.clearIdx_seq (s : State) : (s.clearIdx).seq = s.seq := rfl
@[simp] theorem State.clearIdx_idx (s : State) : (s.clearIdx).idx = 0#8 := rfl
@[simp] theorem State.clearIdx_rsp (s : State) : (s.clearIdx).rsp = s.rsp := rfl
@[simp] theorem State.clearIdx_rspValid (s : State) : (s.clearIdx).rspValid = s.rspValid := rfl
@[simp] theorem State.clearIdx_rxbuf (s : State) : (s.clearIdx).rxbuf = s.rxbuf := rfl
@[simp] theorem State.clearIdx_bp (s : State) : (s.clearIdx).bp = s.bp := rfl
@[simp] theorem State.clearIdx_pend (s : State) : (s.clearIdx).pend = s.pend := rfl
@[simp] theorem State.clearIdx_trace (s : State) : (s.clearIdx).trace = s.trace := rfl
@[simp] theorem State.clearIdx_lines (s : State) : (s.clearIdx).lines = s.lines := rfl
@[simp] theorem State.clearIdx_ctl (s : State) : (s.clearIdx).ctl = s.ctl := rfl
@[simp] theorem State.clearIdx_inputs (s : State) : (s.clearIdx).inputs = s.inputs := rfl
@[simp] theorem State.clearIdx_env (s : State) : (s.clearIdx).env = s.env := rfl
@[simp] theorem State.clearIdx_draws (s : State) : (s.clearIdx).draws = s.draws := rfl

@[simp] theorem State.storeRx_ctrl (s : State) (d : Byte) : (s.storeRx d).ctrl = s.ctrl := rfl
@[simp] theorem State.storeRx_status (s : State) (d : Byte) : (s.storeRx d).status = s.status := rfl
@[simp] theorem State.storeRx_data (s : State) (d : Byte) : (s.storeRx d).data = s.data := rfl
@[simp] theorem State.storeRx_div (s : State) (d : Byte) : (s.storeRx d).div = s.div := rfl
@[simp] theorem State.storeRx_budget (s : State) (d : Byte) : (s.storeRx d).budget = s.budget := rfl
@[simp] theorem State.storeRx_busy (s : State) (d : Byte) : (s.storeRx d).busy = s.busy := rfl
@[simp] theorem State.storeRx_cmdr (s : State) (d : Byte) : (s.storeRx d).cmdr = s.cmdr := rfl
@[simp] theorem State.storeRx_seq (s : State) (d : Byte) : (s.storeRx d).seq = s.seq := rfl
@[simp] theorem State.storeRx_idx (s : State) (d : Byte) : (s.storeRx d).idx = s.idx + 1#8 := rfl
@[simp] theorem State.storeRx_rsp (s : State) (d : Byte) : (s.storeRx d).rsp = s.rsp := rfl
@[simp] theorem State.storeRx_rspValid (s : State) (d : Byte) : (s.storeRx d).rspValid = s.rspValid := rfl
@[simp] theorem State.storeRx_rxbuf (s : State) (d : Byte) : (s.storeRx d).rxbuf = rxbufWrite s.rxbuf s.idx d := rfl
@[simp] theorem State.storeRx_bp (s : State) (d : Byte) : (s.storeRx d).bp = s.bp := rfl
@[simp] theorem State.storeRx_pend (s : State) (d : Byte) : (s.storeRx d).pend = s.pend := rfl
@[simp] theorem State.storeRx_trace (s : State) (d : Byte) : (s.storeRx d).trace = s.trace := rfl
@[simp] theorem State.storeRx_lines (s : State) (d : Byte) : (s.storeRx d).lines = s.lines := rfl
@[simp] theorem State.storeRx_ctl (s : State) (d : Byte) : (s.storeRx d).ctl = s.ctl := rfl
@[simp] theorem State.storeRx_inputs (s : State) (d : Byte) : (s.storeRx d).inputs = s.inputs := rfl
@[simp] theorem State.storeRx_env (s : State) (d : Byte) : (s.storeRx d).env = s.env := rfl
@[simp] theorem State.storeRx_draws (s : State) (d : Byte) : (s.storeRx d).draws = s.draws := rfl

@[simp] theorem State.launch_ctrl (s : State) (ph : Phase) : (s.launch ph).ctrl = s.ctrl.launch ph.sta ph.sto ph.aen := rfl
@[simp] theorem State.launch_status (s : State) (ph : Phase) : (s.launch ph).status = s.status := rfl
@[simp] theorem State.launch_data (s : State) (ph : Phase) : (s.launch ph).data = s.data := rfl
@[simp] theorem State.launch_div (s : State) (ph : Phase) : (s.launch ph).div = s.div := rfl
@[simp] theorem State.launch_budget (s : State) (ph : Phase) : (s.launch ph).budget = s.budget := rfl
@[simp] theorem State.launch_busy (s : State) (ph : Phase) : (s.launch ph).busy = s.busy := rfl
@[simp] theorem State.launch_cmdr (s : State) (ph : Phase) : (s.launch ph).cmdr = s.cmdr := rfl
@[simp] theorem State.launch_seq (s : State) (ph : Phase) : (s.launch ph).seq = s.seq := rfl
@[simp] theorem State.launch_idx (s : State) (ph : Phase) : (s.launch ph).idx = s.idx := rfl
@[simp] theorem State.launch_rsp (s : State) (ph : Phase) : (s.launch ph).rsp = s.rsp := rfl
@[simp] theorem State.launch_rspValid (s : State) (ph : Phase) : (s.launch ph).rspValid = s.rspValid := rfl
@[simp] theorem State.launch_rxbuf (s : State) (ph : Phase) : (s.launch ph).rxbuf = s.rxbuf := rfl
@[simp] theorem State.launch_bp (s : State) (ph : Phase) : (s.launch ph).bp = s.bp := rfl
@[simp] theorem State.launch_pend (s : State) (ph : Phase) : (s.launch ph).pend = some ph := rfl
@[simp] theorem State.launch_trace (s : State) (ph : Phase) : (s.launch ph).trace = s.trace := rfl
@[simp] theorem State.launch_lines (s : State) (ph : Phase) : (s.launch ph).lines = linesAtLaunch s := rfl
@[simp] theorem State.launch_ctl (s : State) (ph : Phase) : (s.launch ph).ctl = s.ctl := rfl
@[simp] theorem State.launch_inputs (s : State) (ph : Phase) : (s.launch ph).inputs = s.inputs := rfl
@[simp] theorem State.launch_env (s : State) (ph : Phase) : (s.launch ph).env = s.env := rfl
@[simp] theorem State.launch_draws (s : State) (ph : Phase) : (s.launch ph).draws = s.draws := rfl

@[simp] theorem State.coreDone_ctrl (s : State) (ph : Phase) (code data : Byte) : (s.coreDone ph code data).ctrl = { s.ctrl with done := true } := rfl
@[simp] theorem State.coreDone_status (s : State) (ph : Phase) (code data : Byte) : (s.coreDone ph code data).status = code := rfl
@[simp] theorem State.coreDone_data (s : State) (ph : Phase) (code data : Byte) : (s.coreDone ph code data).data = if ph.isRx then data else s.data := rfl
@[simp] theorem State.coreDone_div (s : State) (ph : Phase) (code data : Byte) : (s.coreDone ph code data).div = s.div := rfl
@[simp] theorem State.coreDone_budget (s : State) (ph : Phase) (code data : Byte) : (s.coreDone ph code data).budget = s.budget := rfl
@[simp] theorem State.coreDone_busy (s : State) (ph : Phase) (code data : Byte) : (s.coreDone ph code data).busy = s.busy := rfl
@[simp] theorem State.coreDone_cmdr (s : State) (ph : Phase) (code data : Byte) : (s.coreDone ph code data).cmdr = s.cmdr := rfl
@[simp] theorem State.coreDone_seq (s : State) (ph : Phase) (code data : Byte) : (s.coreDone ph code data).seq = s.seq := rfl
@[simp] theorem State.coreDone_idx (s : State) (ph : Phase) (code data : Byte) : (s.coreDone ph code data).idx = s.idx := rfl
@[simp] theorem State.coreDone_rsp (s : State) (ph : Phase) (code data : Byte) : (s.coreDone ph code data).rsp = s.rsp := rfl
@[simp] theorem State.coreDone_rspValid (s : State) (ph : Phase) (code data : Byte) : (s.coreDone ph code data).rspValid = s.rspValid := rfl
@[simp] theorem State.coreDone_rxbuf (s : State) (ph : Phase) (code data : Byte) : (s.coreDone ph code data).rxbuf = s.rxbuf := rfl
@[simp] theorem State.coreDone_bp (s : State) (ph : Phase) (code data : Byte) : (s.coreDone ph code data).bp = s.bp := rfl
@[simp] theorem State.coreDone_pend (s : State) (ph : Phase) (code data : Byte) : (s.coreDone ph code data).pend = none := rfl
@[simp] theorem State.coreDone_trace (s : State) (ph : Phase) (code data : Byte) : (s.coreDone ph code data).trace = s.trace := rfl
@[simp] theorem State.coreDone_lines (s : State) (ph : Phase) (code data : Byte) : (s.coreDone ph code data).lines = s.lines := rfl
@[simp] theorem State.coreDone_ctl (s : State) (ph : Phase) (code data : Byte) : (s.coreDone ph code data).ctl = s.ctl := rfl
@[simp] theorem State.coreDone_inputs (s : State) (ph : Phase) (code data : Byte) : (s.coreDone ph code data).inputs = s.inputs := rfl
@[simp] theorem State.coreDone_env (s : State) (ph : Phase) (code data : Byte) : (s.coreDone ph code data).env = s.env := rfl
@[simp] theorem State.coreDone_draws (s : State) (ph : Phase) (code data : Byte) : (s.coreDone ph code data).draws = s.draws := rfl

@[simp] theorem State.coreStopped_ctrl (s : State) : (s.coreStopped).ctrl = { s.ctrl with sto := false } := rfl
@[simp] theorem State.coreStopped_status (s : State) : (s.coreStopped).status = s.status := rfl
@[simp] theorem State.coreStopped_data (s : State) : (s.coreStopped).data = s.data := rfl
@[simp] theorem State.coreStopped_div (s : State) : (s.coreStopped).div = s.div := rfl
@[simp] theorem State.coreStopped_budget (s : State) : (s.coreStopped).budget = s.budget := rfl
@[simp] theorem State.coreStopped_busy (s : State) : (s.coreStopped).busy = s.busy := rfl
@[simp] theorem State.coreStopped_cmdr (s : State) : (s.coreStopped).cmdr = s.cmdr := rfl
@[simp] theorem State.coreStopped_seq (s : State) : (s.coreStopped).seq = s.seq := rfl
@[simp] theorem State.coreStopped_idx (s : State) : (s.coreStopped).idx = s.idx := rfl
@[simp] theorem State.coreStopped_rsp (s : State) : (s.coreStopped).rsp = s.rsp := rfl
@[simp] theorem State.coreStopped_rspValid (s : State) : (s.coreStopped).rspValid = s.rspValid := rfl
@[simp] theorem State.coreStopped_rxbuf (s : State) : (s.coreStopped).rxbuf = s.rxbuf := rfl
@[simp] theorem State.coreStopped_bp (s : State) : (s.coreStopped).bp = s.bp := rfl
@[simp] theorem State.coreStopped_pend (s : State) : (s.coreStopped).pend = none := rfl
@[simp] theorem State.coreStopped_trace (s : State) : (s.coreStopped).trace = s.trace := rfl
@[simp] theorem State.coreStopped_lines (s : State) : (s.coreStopped).lines = .released := rfl
@[simp] theorem State.coreStopped_ctl (s : State) : (s.coreStopped).ctl = s.ctl := rfl
@[simp] theorem State.coreStopped_inputs (s : State) : (s.coreStopped).inputs = s.inputs := rfl
@[simp] theorem State.coreStopped_env (s : State) : (s.coreStopped).env = s.env := rfl
@[simp] theorem State.coreStopped_draws (s : State) : (s.coreStopped).draws = s.draws := rfl

@[simp] theorem State.expire_ctrl (s : State) (ph : Phase) : (s.expire ph).ctrl = s.ctrl := rfl
@[simp] theorem State.expire_status (s : State) (ph : Phase) : (s.expire ph).status = s.status := rfl
@[simp] theorem State.expire_data (s : State) (ph : Phase) : (s.expire ph).data = s.data := rfl
@[simp] theorem State.expire_div (s : State) (ph : Phase) : (s.expire ph).div = s.div := rfl
@[simp] theorem State.expire_budget (s : State) (ph : Phase) : (s.expire ph).budget = s.budget := rfl
@[simp] theorem State.expire_busy (s : State) (ph : Phase) : (s.expire ph).busy = s.busy := rfl
@[simp] theorem State.expire_cmdr (s : State) (ph : Phase) : (s.expire ph).cmdr = s.cmdr := rfl
@[simp] theorem State.expire_seq (s : State) (ph : Phase) : (s.expire ph).seq = s.seq := rfl
@[simp] theorem State.expire_idx (s : State) (ph : Phase) : (s.expire ph).idx = s.idx := rfl
@[simp] theorem State.expire_rsp (s : State) (ph : Phase) : (s.expire ph).rsp = s.rsp := rfl
@[simp] theorem State.expire_rspValid (s : State) (ph : Phase) : (s.expire ph).rspValid = s.rspValid := rfl
@[simp] theorem State.expire_rxbuf (s : State) (ph : Phase) : (s.expire ph).rxbuf = s.rxbuf := rfl
@[simp] theorem State.expire_bp (s : State) (ph : Phase) : (s.expire ph).bp = .unknown := rfl
@[simp] theorem State.expire_pend (s : State) (ph : Phase) : (s.expire ph).pend = s.pend := rfl
@[simp] theorem State.expire_trace (s : State) (ph : Phase) : (s.expire ph).trace = s.trace ++ [.phase ph .expired] := rfl
@[simp] theorem State.expire_lines (s : State) (ph : Phase) : (s.expire ph).lines = s.lines := rfl
@[simp] theorem State.expire_ctl (s : State) (ph : Phase) : (s.expire ph).ctl = s.ctl := rfl
@[simp] theorem State.expire_inputs (s : State) (ph : Phase) : (s.expire ph).inputs = s.inputs := rfl
@[simp] theorem State.expire_env (s : State) (ph : Phase) : (s.expire ph).env = s.env := rfl
@[simp] theorem State.expire_draws (s : State) (ph : Phase) : (s.expire ph).draws = s.draws := rfl

@[simp] theorem State.stopCleared_ctrl (s : State) : (s.stopCleared).ctrl = s.ctrl := rfl
@[simp] theorem State.stopCleared_status (s : State) : (s.stopCleared).status = s.status := rfl
@[simp] theorem State.stopCleared_data (s : State) : (s.stopCleared).data = s.data := rfl
@[simp] theorem State.stopCleared_div (s : State) : (s.stopCleared).div = s.div := rfl
@[simp] theorem State.stopCleared_budget (s : State) : (s.stopCleared).budget = s.budget := rfl
@[simp] theorem State.stopCleared_busy (s : State) : (s.stopCleared).busy = s.busy := rfl
@[simp] theorem State.stopCleared_cmdr (s : State) : (s.stopCleared).cmdr = s.cmdr := rfl
@[simp] theorem State.stopCleared_seq (s : State) : (s.stopCleared).seq = s.seq := rfl
@[simp] theorem State.stopCleared_idx (s : State) : (s.stopCleared).idx = s.idx := rfl
@[simp] theorem State.stopCleared_rsp (s : State) : (s.stopCleared).rsp = s.rsp := rfl
@[simp] theorem State.stopCleared_rspValid (s : State) : (s.stopCleared).rspValid = s.rspValid := rfl
@[simp] theorem State.stopCleared_rxbuf (s : State) : (s.stopCleared).rxbuf = s.rxbuf := rfl
@[simp] theorem State.stopCleared_bp (s : State) : (s.stopCleared).bp = .idle := rfl
@[simp] theorem State.stopCleared_pend (s : State) : (s.stopCleared).pend = s.pend := rfl
@[simp] theorem State.stopCleared_trace (s : State) : (s.stopCleared).trace = s.trace ++ [.phase .stop .stopCleared] := rfl
@[simp] theorem State.stopCleared_lines (s : State) : (s.stopCleared).lines = s.lines := rfl
@[simp] theorem State.stopCleared_ctl (s : State) : (s.stopCleared).ctl = s.ctl := rfl
@[simp] theorem State.stopCleared_inputs (s : State) : (s.stopCleared).inputs = s.inputs := rfl
@[simp] theorem State.stopCleared_env (s : State) : (s.stopCleared).env = s.env := rfl
@[simp] theorem State.stopCleared_draws (s : State) : (s.stopCleared).draws = s.draws := rfl

@[simp] theorem State.release_ctrl (s : State) : (s.release).ctrl = Ctrl.idleEnabled := rfl
@[simp] theorem State.release_status (s : State) : (s.release).status = s.status := rfl
@[simp] theorem State.release_data (s : State) : (s.release).data = s.data := rfl
@[simp] theorem State.release_div (s : State) : (s.release).div = s.div := rfl
@[simp] theorem State.release_budget (s : State) : (s.release).budget = s.budget := rfl
@[simp] theorem State.release_busy (s : State) : (s.release).busy = s.busy := rfl
@[simp] theorem State.release_cmdr (s : State) : (s.release).cmdr = s.cmdr := rfl
@[simp] theorem State.release_seq (s : State) : (s.release).seq = s.seq := rfl
@[simp] theorem State.release_idx (s : State) : (s.release).idx = s.idx := rfl
@[simp] theorem State.release_rsp (s : State) : (s.release).rsp = s.rsp := rfl
@[simp] theorem State.release_rspValid (s : State) : (s.release).rspValid = s.rspValid := rfl
@[simp] theorem State.release_rxbuf (s : State) : (s.release).rxbuf = s.rxbuf := rfl
@[simp] theorem State.release_bp (s : State) : (s.release).bp = .idle := rfl
@[simp] theorem State.release_pend (s : State) : (s.release).pend = none := rfl
@[simp] theorem State.release_trace (s : State) : (s.release).trace = s.trace ++ [.release] := rfl
@[simp] theorem State.release_lines (s : State) : (s.release).lines = .released := rfl
@[simp] theorem State.release_ctl (s : State) : (s.release).ctl = s.ctl := rfl
@[simp] theorem State.release_inputs (s : State) : (s.release).inputs = s.inputs := rfl
@[simp] theorem State.release_env (s : State) : (s.release).env = s.env := rfl
@[simp] theorem State.release_draws (s : State) : (s.release).draws = s.draws := rfl

@[simp] theorem State.acceptWord_ctrl (s : State) (w : Word) : (s.acceptWord w).ctrl = s.ctrl := rfl
@[simp] theorem State.acceptWord_status (s : State) (w : Word) : (s.acceptWord w).status = s.status := rfl
@[simp] theorem State.acceptWord_data (s : State) (w : Word) : (s.acceptWord w).data = s.data := rfl
@[simp] theorem State.acceptWord_div (s : State) (w : Word) : (s.acceptWord w).div = s.div := rfl
@[simp] theorem State.acceptWord_budget (s : State) (w : Word) : (s.acceptWord w).budget = s.budget := rfl
@[simp] theorem State.acceptWord_busy (s : State) (w : Word) : (s.acceptWord w).busy = true := rfl
@[simp] theorem State.acceptWord_cmdr (s : State) (w : Word) : (s.acceptWord w).cmdr = w := rfl
@[simp] theorem State.acceptWord_seq (s : State) (w : Word) : (s.acceptWord w).seq = s.seq := rfl
@[simp] theorem State.acceptWord_idx (s : State) (w : Word) : (s.acceptWord w).idx = s.idx := rfl
@[simp] theorem State.acceptWord_rsp (s : State) (w : Word) : (s.acceptWord w).rsp = s.rsp := rfl
@[simp] theorem State.acceptWord_rspValid (s : State) (w : Word) : (s.acceptWord w).rspValid = s.rspValid := rfl
@[simp] theorem State.acceptWord_rxbuf (s : State) (w : Word) : (s.acceptWord w).rxbuf = s.rxbuf := rfl
@[simp] theorem State.acceptWord_bp (s : State) (w : Word) : (s.acceptWord w).bp = s.bp := rfl
@[simp] theorem State.acceptWord_pend (s : State) (w : Word) : (s.acceptWord w).pend = s.pend := rfl
@[simp] theorem State.acceptWord_trace (s : State) (w : Word) : (s.acceptWord w).trace = s.trace := rfl
@[simp] theorem State.acceptWord_lines (s : State) (w : Word) : (s.acceptWord w).lines = s.lines := rfl
@[simp] theorem State.acceptWord_ctl (s : State) (w : Word) : (s.acceptWord w).ctl = s.ctl := rfl
@[simp] theorem State.acceptWord_inputs (s : State) (w : Word) : (s.acceptWord w).inputs = s.inputs := rfl
@[simp] theorem State.acceptWord_env (s : State) (w : Word) : (s.acceptWord w).env = s.env := rfl
@[simp] theorem State.acceptWord_draws (s : State) (w : Word) : (s.acceptWord w).draws = s.draws := rfl

@[simp] theorem State.respond_ctrl (s : State) (r : Response) (count rdata : Byte) : (s.respond r count rdata).ctrl = s.ctrl := rfl
@[simp] theorem State.respond_status (s : State) (r : Response) (count rdata : Byte) : (s.respond r count rdata).status = s.status := rfl
@[simp] theorem State.respond_data (s : State) (r : Response) (count rdata : Byte) : (s.respond r count rdata).data = s.data := rfl
@[simp] theorem State.respond_div (s : State) (r : Response) (count rdata : Byte) : (s.respond r count rdata).div = s.div := rfl
@[simp] theorem State.respond_budget (s : State) (r : Response) (count rdata : Byte) : (s.respond r count rdata).budget = s.budget := rfl
@[simp] theorem State.respond_busy (s : State) (r : Response) (count rdata : Byte) : (s.respond r count rdata).busy = false := rfl
@[simp] theorem State.respond_cmdr (s : State) (r : Response) (count rdata : Byte) : (s.respond r count rdata).cmdr = s.cmdr := rfl
@[simp] theorem State.respond_seq (s : State) (r : Response) (count rdata : Byte) : (s.respond r count rdata).seq = .idle := rfl
@[simp] theorem State.respond_idx (s : State) (r : Response) (count rdata : Byte) : (s.respond r count rdata).idx = s.idx := rfl
@[simp] theorem State.respond_rsp (s : State) (r : Response) (count rdata : Byte) : (s.respond r count rdata).rsp = responseWord r count rdata := rfl
@[simp] theorem State.respond_rspValid (s : State) (r : Response) (count rdata : Byte) : (s.respond r count rdata).rspValid = true := rfl
@[simp] theorem State.respond_rxbuf (s : State) (r : Response) (count rdata : Byte) : (s.respond r count rdata).rxbuf = s.rxbuf := rfl
@[simp] theorem State.respond_bp (s : State) (r : Response) (count rdata : Byte) : (s.respond r count rdata).bp = s.bp := rfl
@[simp] theorem State.respond_pend (s : State) (r : Response) (count rdata : Byte) : (s.respond r count rdata).pend = s.pend := rfl
@[simp] theorem State.respond_trace (s : State) (r : Response) (count rdata : Byte) : (s.respond r count rdata).trace = s.trace := rfl
@[simp] theorem State.respond_lines (s : State) (r : Response) (count rdata : Byte) : (s.respond r count rdata).lines = s.lines := rfl
@[simp] theorem State.respond_ctl (s : State) (r : Response) (count rdata : Byte) : (s.respond r count rdata).ctl = .idle := rfl
@[simp] theorem State.respond_inputs (s : State) (r : Response) (count rdata : Byte) : (s.respond r count rdata).inputs = s.inputs := rfl
@[simp] theorem State.respond_env (s : State) (r : Response) (count rdata : Byte) : (s.respond r count rdata).env = s.env := rfl
@[simp] theorem State.respond_draws (s : State) (r : Response) (count rdata : Byte) : (s.respond r count rdata).draws = s.draws := rfl

@[simp] theorem State.beginStep_ctrl (s : State) (rest : List Input) : (s.beginStep rest).ctrl = s.ctrl := rfl
@[simp] theorem State.beginStep_status (s : State) (rest : List Input) : (s.beginStep rest).status = s.status := rfl
@[simp] theorem State.beginStep_data (s : State) (rest : List Input) : (s.beginStep rest).data = s.data := rfl
@[simp] theorem State.beginStep_div (s : State) (rest : List Input) : (s.beginStep rest).div = s.div := rfl
@[simp] theorem State.beginStep_budget (s : State) (rest : List Input) : (s.beginStep rest).budget = s.budget := rfl
@[simp] theorem State.beginStep_busy (s : State) (rest : List Input) : (s.beginStep rest).busy = s.busy := rfl
@[simp] theorem State.beginStep_cmdr (s : State) (rest : List Input) : (s.beginStep rest).cmdr = s.cmdr := rfl
@[simp] theorem State.beginStep_seq (s : State) (rest : List Input) : (s.beginStep rest).seq = s.seq := rfl
@[simp] theorem State.beginStep_idx (s : State) (rest : List Input) : (s.beginStep rest).idx = s.idx := rfl
@[simp] theorem State.beginStep_rsp (s : State) (rest : List Input) : (s.beginStep rest).rsp = s.rsp := rfl
@[simp] theorem State.beginStep_rspValid (s : State) (rest : List Input) : (s.beginStep rest).rspValid = false := rfl
@[simp] theorem State.beginStep_rxbuf (s : State) (rest : List Input) : (s.beginStep rest).rxbuf = s.rxbuf := rfl
@[simp] theorem State.beginStep_bp (s : State) (rest : List Input) : (s.beginStep rest).bp = s.bp := rfl
@[simp] theorem State.beginStep_pend (s : State) (rest : List Input) : (s.beginStep rest).pend = s.pend := rfl
@[simp] theorem State.beginStep_trace (s : State) (rest : List Input) : (s.beginStep rest).trace = s.trace := rfl
@[simp] theorem State.beginStep_lines (s : State) (rest : List Input) : (s.beginStep rest).lines = s.lines := rfl
@[simp] theorem State.beginStep_ctl (s : State) (rest : List Input) : (s.beginStep rest).ctl = s.ctl := rfl
@[simp] theorem State.beginStep_inputs (s : State) (rest : List Input) : (s.beginStep rest).inputs = rest := rfl
@[simp] theorem State.beginStep_env (s : State) (rest : List Input) : (s.beginStep rest).env = s.env := rfl
@[simp] theorem State.beginStep_draws (s : State) (rest : List Input) : (s.beginStep rest).draws = s.draws := rfl

@[simp] theorem State.loadData_ctrl (s : State) (ph : Phase) : (s.loadData ph).ctrl = s.ctrl := by
  cases ph <;> rfl
@[simp] theorem State.loadData_status (s : State) (ph : Phase) : (s.loadData ph).status = s.status := by
  cases ph <;> rfl
@[simp] theorem State.loadData_data (s : State) (ph : Phase) : (s.loadData ph).data = ph.sends.getD s.data := by
  cases ph <;> rfl
@[simp] theorem State.loadData_div (s : State) (ph : Phase) : (s.loadData ph).div = s.div := by
  cases ph <;> rfl
@[simp] theorem State.loadData_budget (s : State) (ph : Phase) : (s.loadData ph).budget = s.budget := by
  cases ph <;> rfl
@[simp] theorem State.loadData_busy (s : State) (ph : Phase) : (s.loadData ph).busy = s.busy := by
  cases ph <;> rfl
@[simp] theorem State.loadData_cmdr (s : State) (ph : Phase) : (s.loadData ph).cmdr = s.cmdr := by
  cases ph <;> rfl
@[simp] theorem State.loadData_seq (s : State) (ph : Phase) : (s.loadData ph).seq = s.seq := by
  cases ph <;> rfl
@[simp] theorem State.loadData_idx (s : State) (ph : Phase) : (s.loadData ph).idx = s.idx := by
  cases ph <;> rfl
@[simp] theorem State.loadData_rsp (s : State) (ph : Phase) : (s.loadData ph).rsp = s.rsp := by
  cases ph <;> rfl
@[simp] theorem State.loadData_rspValid (s : State) (ph : Phase) : (s.loadData ph).rspValid = s.rspValid := by
  cases ph <;> rfl
@[simp] theorem State.loadData_rxbuf (s : State) (ph : Phase) : (s.loadData ph).rxbuf = s.rxbuf := by
  cases ph <;> rfl
@[simp] theorem State.loadData_bp (s : State) (ph : Phase) : (s.loadData ph).bp = s.bp := by
  cases ph <;> rfl
@[simp] theorem State.loadData_pend (s : State) (ph : Phase) : (s.loadData ph).pend = s.pend := by
  cases ph <;> rfl
@[simp] theorem State.loadData_trace (s : State) (ph : Phase) : (s.loadData ph).trace = s.trace := by
  cases ph <;> rfl
@[simp] theorem State.loadData_lines (s : State) (ph : Phase) : (s.loadData ph).lines = s.lines := by
  cases ph <;> rfl
@[simp] theorem State.loadData_ctl (s : State) (ph : Phase) : (s.loadData ph).ctl = s.ctl := by
  cases ph <;> rfl
@[simp] theorem State.loadData_inputs (s : State) (ph : Phase) : (s.loadData ph).inputs = s.inputs := by
  cases ph <;> rfl
@[simp] theorem State.loadData_env (s : State) (ph : Phase) : (s.loadData ph).env = s.env := by
  cases ph <;> rfl
@[simp] theorem State.loadData_draws (s : State) (ph : Phase) : (s.loadData ph).draws = s.draws := by
  cases ph <;> rfl

end Sys2Proof.Machine
end

