-- ==== Sys2Proof/Laws/Ops.lean ====
section
/-!
SUPPORT. What each shared operation can do, said once: the environment's answer, the poll of a phase, a whole phase, a
stop phase, the recovery, a body, and the issue of a command.
-/

namespace Sys2Proof.Machine

/-! ### CTRL -/

@[simp] theorem Ctrl.ofByte_byte (c : Ctrl) : Ctrl.ofByte c.byte = c := by
  obtain ⟨done, aen, sta, sto, en⟩ := c
  revert done aen sta sto en; decide

/-- The reserved bits read 0 (R27). -/
theorem Ctrl.byte_reserved (c : Ctrl) : c.byte &&& 0x0B#8 = 0#8 := by
  obtain ⟨done, aen, sta, sto, en⟩ := c
  revert done aen sta sto en; decide

@[simp] theorem Ctrl.launch_en (c : Ctrl) (sta sto aen : Bool) : (c.launch sta sto aen).en = c.en := rfl

@[simp] theorem Ctrl.launch_done (c : Ctrl) (sta sto aen : Bool) : (c.launch sta sto aen).done = false := rfl

@[simp] theorem Ctrl.launch_sta (c : Ctrl) (sta sto aen : Bool) : (c.launch sta sto aen).sta = sta := rfl

@[simp] theorem Ctrl.launch_sto (c : Ctrl) (sta sto aen : Bool) : (c.launch sta sto aen).sto = sto := rfl

@[simp] theorem Ctrl.launch_aen (c : Ctrl) (sta sto aen : Bool) : (c.launch sta sto aen).aen = aen := rfl

/-! ### Words -/

theorem addrByte_dir (dev : Addr7) (rw : Dir) : Dir.ofBit ((addrByte dev rw).extractLsb' 0 1) = rw := by
  cases rw <;> revert dev <;> decide

/-! ### The environment's answer -/

/-- Taking an answer changes the script and the draw counter alone. -/
theorem takeAnswer_state (s : State) :
    ∃ e n, (takeAnswer s).2 = { s with env := e, draws := n } := by
  unfold takeAnswer
  split
  · exact ⟨_, s.draws, rfl⟩
  · exact ⟨s.env, _, rfl⟩

/-- With a script, its head is the answer. -/
theorem takeAnswer_cons {s : State} {a : Config.Answer} {rest : List Config.Answer} (h : s.env = a :: rest) :
    takeAnswer s = (a, { s with env := rest }) := by
  simp [takeAnswer, h]

/-- A disabled Core answers `Never` and consumes nothing (R79). -/
theorem envAnswer_disabled {s : State} (ph : Phase) (h : s.ctrl.en = false) : envAnswer ph s = (.never, s) := by
  simp [envAnswer, h]

/-- An enabled Core answers with the next answer (R78). -/
theorem envAnswer_enabled {s : State} {a : Config.Answer} {rest : List Config.Answer} (ph : Phase)
    (he : s.ctrl.en = true) (h : s.env = a :: rest) : envAnswer ph s = (resultOf a ph, { s with env := rest }) := by
  simp [envAnswer, he, takeAnswer_cons h]

/-- What an answer is for a phase that is no stop: a completion below `POLL_LIMIT`, or never. -/
theorem resultOf_cases {a : Config.Answer} {ph : Phase} (hp : ph ≠ .stop) :
    (∃ k, a.delay = some k ∧ k < Config.pollLimit ∧ resultOf a ph = .done k (a.code ++ 0#3) a.data) ∨
      resultOf a ph = .never := by
  unfold resultOf
  split
  · exact .inr rfl
  · rename_i k hk
    by_cases h : k < Config.pollLimit
    · refine .inl ⟨k, hk, h, ?_⟩
      cases ph <;> simp_all
    · exact .inr (by simp [h])

/-- What an answer is for a stop phase. -/
theorem resultOf_stop_cases (a : Config.Answer) :
    (∃ k, a.delay = some k ∧ k < Config.pollLimit ∧ resultOf a .stop = .cleared k) ∨ resultOf a .stop = .never := by
  unfold resultOf
  split
  · exact .inr rfl
  · rename_i k hk
    by_cases h : k < Config.pollLimit
    · exact .inl ⟨k, hk, h, by simp [h]⟩
    · exact .inr (by simp [h])

/-! ### The poll of a phase (R113) -/

/-- A phase that is no stop is seen completed, by an enabled Core, or expires. -/
theorem await_cases {ph : Phase} (hp : ph ≠ .stop) (s : State) :
    (s.ctrl.en = true ∧ ∃ (k : Nat) (code : BitVec 5) (data : Byte) (e : List Config.Answer) (n : Nat), k < Config.pollLimit ∧
      await ph s = (.ready, { ({ s with env := e, draws := n }).coreDone ph (code ++ 0#3) data with
        budget := budgetAfter k })) ∨
    (∃ (e : List Config.Answer) (n : Nat), await ph s = (.expired, { s with env := e, draws := n, budget := 0#8 })) := by
  obtain ⟨e, n, ht⟩ := takeAnswer_state s
  by_cases he : s.ctrl.en = true
  · rcases resultOf_cases (a := (takeAnswer s).1) hp with ⟨k, -, hk, hr⟩ | hr
    · exact .inl ⟨he, k, (takeAnswer s).1.code, (takeAnswer s).1.data, e, n, hk, by simp [await, envAnswer, he, hr, ht]⟩
    · exact .inr ⟨e, n, by simp [await, envAnswer, he, hr, ht]⟩
  · exact .inr ⟨s.env, s.draws, by simp [await, envAnswer, he]⟩

/-- A stop phase is seen cleared, by an enabled Core, or expires. -/
theorem await_stop_cases (s : State) :
    (s.ctrl.en = true ∧ ∃ (k : Nat) (e : List Config.Answer) (n : Nat), k < Config.pollLimit ∧
      await .stop s = (.ready, { ({ s with env := e, draws := n }).coreStopped with budget := budgetAfter k })) ∨
    (∃ (e : List Config.Answer) (n : Nat), await .stop s = (.expired, { s with env := e, draws := n, budget := 0#8 })) := by
  obtain ⟨e, n, ht⟩ := takeAnswer_state s
  by_cases he : s.ctrl.en = true
  · rcases resultOf_stop_cases (takeAnswer s).1 with ⟨k, -, hk, hr⟩ | hr
    · exact .inl ⟨he, k, e, n, hk, by simp [await, envAnswer, he, hr, ht]⟩
    · exact .inr ⟨e, n, by simp [await, envAnswer, he, hr, ht]⟩
  · exact .inr ⟨s.env, s.draws, by simp [await, envAnswer, he]⟩

/-! ### One phase (R117, R118) -/

/-- The state in which a phase is awaited. -/
def State.launched (s : State) (ph : Phase) : State := (s.loadData ph).launch ph

/-- The state after a phase whose flag was seen, before the status is acted on. -/
def State.completed (s : State) (ph : Phase) (k : Nat) (code : BitVec 5) (data : Byte) (e : List Config.Answer)
    (n : Nat) : State :=
  { ({ s.launched ph with env := e, draws := n }).coreDone ph (code ++ 0#3) data with budget := budgetAfter k }

/-- A phase that is no stop ends with a code, from an enabled Core, or expires. -/
theorem donePhase_cases {ph : Phase} (hp : ph ≠ .stop) (s : State) :
    (s.ctrl.en = true ∧ ∃ (k : Nat) (code : BitVec 5) (data : Byte) (e : List Config.Answer) (n : Nat), k < Config.pollLimit ∧
      donePhase ph s = (.code (code ++ 0#3),
        (s.completed ph k code data e n).emit (completedEvent ph (s.completed ph k code data e n)))) ∨
    (∃ (e : List Config.Answer) (n : Nat), donePhase ph s =
      (.expired, ({ s.launched ph with env := e, draws := n, budget := 0#8 }).expire ph)) := by
  rcases await_cases hp (s.launched ph) with ⟨he, k, code, data, e, n, hk, h⟩ | ⟨e, n, h⟩
  · refine .inl ⟨by simpa [State.launched] using he, k, code, data, e, n, hk, ?_⟩
    simp only [State.launched] at h
    simp only [donePhase, h]
    rfl
  · refine .inr ⟨e, n, ?_⟩
    simp only [State.launched] at h
    simp only [donePhase, h]
    rfl

/-- A stop phase ends cleared, by an enabled Core, or expires. -/
theorem stopPhase_cases (s : State) :
    (s.ctrl.en = true ∧ ∃ (k : Nat) (e : List Config.Answer) (n : Nat), k < Config.pollLimit ∧
      stopPhase s = (.ok, ({ ({ s.launch .stop with env := e, draws := n }).coreStopped with
        budget := budgetAfter k }).stopCleared)) ∨
    (∃ (e : List Config.Answer) (n : Nat), stopPhase s =
      (.timeout, ({ s.launch .stop with env := e, draws := n, budget := 0#8 }).expire .stop)) := by
  rcases await_stop_cases (s.launch .stop) with ⟨he, k, e, n, hk, h⟩ | ⟨e, n, h⟩
  · exact .inl ⟨by simpa using he, k, e, n, hk, by simp only [stopPhase, h]⟩
  · exact .inr ⟨e, n, by simp only [stopPhase, h]⟩

/-! ### Bodies and commands -/

/-- One phase of a command: success, a failure with its recovery, or a timeout with none. -/
theorem runPhase_cases {ph : Phase} (hp : ph ≠ .stop) (verdict : Byte → Verdict) (s : State) :
    (s.ctrl.en = true ∧ ∃ (k : Nat) (code : BitVec 5) (data : Byte) (e : List Config.Answer) (n : Nat), k < Config.pollLimit ∧
      ((∃ bp, verdict (code ++ 0#3) = .success bp ∧
          runPhase ph verdict s =
            { outcome := .ok
              rdata := if ph.isRx then (s.completed ph k code data e n).data else 0#8
              state := ((s.completed ph k code data e n).emit
                (completedEvent ph (s.completed ph k code data e n))).setBp bp }) ∨
       (∃ r, verdict (code ++ 0#3) = .failure r ∧
          runPhase ph verdict s =
            { outcome := .hardwareStatus (code ++ 0#3)
              rdata := 0#8
              state := recover r ((s.completed ph k code data e n).emit
                (completedEvent ph (s.completed ph k code data e n))) }))) ∨
    (∃ (e : List Config.Answer) (n : Nat), runPhase ph verdict s =
      { outcome := .timeout
        rdata := 0#8
        state := ({ s.launched ph with env := e, draws := n, budget := 0#8 }).expire ph }) := by
  rcases donePhase_cases hp s with ⟨he, k, code, data, e, n, hk, h⟩ | ⟨e, n, h⟩
  · refine .inl ⟨he, k, code, data, e, n, hk, ?_⟩
    cases hv : verdict (code ++ 0#3) with
    | success bp => exact .inl ⟨bp, rfl, by simp [runPhase, settle, h, hv]⟩
    | failure r => exact .inr ⟨r, rfl, by simp [runPhase, settle, h, hv]⟩
  · exact .inr ⟨e, n, by simp [runPhase, settle, h]⟩

@[simp] theorem Ended.andThen_ok (d : Byte) (s : State) (k : State → Ended) :
    (Ended.mk .ok d s).andThen k = k s := rfl

@[simp] theorem Ended.andThen_timeout (d : Byte) (s : State) (k : State → Ended) :
    (Ended.mk .timeout d s).andThen k = Ended.mk .timeout d s := rfl

@[simp] theorem Ended.andThen_hardwareStatus (c d : Byte) (s : State) (k : State → Ended) :
    (Ended.mk (.hardwareStatus c) d s).andThen k = Ended.mk (.hardwareStatus c) d s := rfl

/-- A body followed by another ends as the first unless that ended `Ok` (R172). -/
theorem Ended.andThen_cases (e : Ended) (k : State → Ended) :
    (e.outcome = .ok ∧ e.andThen k = k e.state) ∨ (e.outcome ≠ .ok ∧ e.andThen k = e) := by
  obtain ⟨o, d, s⟩ := e
  cases o <;> simp

/-- An issued command that answers a next state was admitted and answers what its body left. -/
theorem issue_next {i : Instr} {s t : State} {run : State → State} (h : issue i s run = .next t) :
    admitted i s = true ∧ t = run s := by
  unfold issue at h
  split at h
  · rename_i ha
    injection h with h
    exact ⟨ha, h.symm⟩
  · cases h

/-- An admitted command answers a next state. -/
theorem issue_admitted {i : Instr} {s : State} {run : State → State} (h : admitted i s = true) :
    issue i s run = .next (run s) := by
  simp [issue, h]

/-! ### The response word (R92) -/

/-- The four fields of a response word read back, and the six bits between them are 0. -/
theorem responseWord_fields (r : Response) (count rdata : Byte) :
    rspTag (responseWord r count rdata) = r.tag ∧ rspCode (responseWord r count rdata) = r.code ∧
      rspCount (responseWord r count rdata) = count ∧ rspRdata (responseWord r count rdata) = rdata ∧
      (responseWord r count rdata).extractLsb' 24 6 = 0#6 := by
  simp only [rspTag, rspCode, rspCount, rspRdata, responseWord]
  refine ⟨?_, ?_, ?_, ?_, ?_⟩ <;>
  · ext i hi
    simp only [BitVec.getElem_extractLsb', BitVec.getLsbD_append]
    interval_cases i <;> simp [BitVec.getLsbD_eq_getElem]

/-! ### The receive buffer (R37) -/

/-- A byte written is read back. -/
theorem rxbufRead_write_same (v : Vector Byte Config.rxbufSize) (i d : Byte) (h : i.toNat < Config.rxbufSize) :
    rxbufRead (rxbufWrite v i d) i = some d := by
  simp [rxbufRead, rxbufWrite, h]

/-- A write leaves every other entry. -/
theorem rxbufRead_write_other (v : Vector Byte Config.rxbufSize) (i j d : Byte) (h : i ≠ j) :
    rxbufRead (rxbufWrite v i d) j = rxbufRead v j := by
  have hn : i.toNat ≠ j.toNat := fun hh => h (BitVec.eq_of_toNat_eq hh)
  unfold rxbufRead rxbufWrite
  split
  · split
    · simp [Vector.getElem_set_ne, hn]
    · rfl
  · rfl

end Sys2Proof.Machine
end

