-- ==== Sys2Proof/Laws/PerInstr.lean ====
section
/-!
SUPPORT. The family `RowMatch`: the word of every command is in its own row of the opcode map (R87), one lemma per
constructor.
-/

namespace Sys2Proof.Laws.RowMatch

/-- The encoder's word agrees with the match of its row under the row's mask. -/
def Statement (i : Instr) : Prop := encode i &&& (opcodeRow i).mask = (opcodeRow i).mtch

theorem init : Statement .init := by unfold Statement; decide

theorem start : Statement .start := by unfold Statement; decide

theorem stop : Statement .stop := by unfold Statement; decide

theorem sendAddress (dev : Addr7) (rw : Dir) : Statement (.sendAddress dev rw) := by
  cases rw <;>
  · simp only [Statement, encode, fieldsOf, opOf, opcodeRow, Fields.join, Dir.bit]
    ext i hi
    simp only [BitVec.getElem_and, BitVec.getElem_append]
    interval_cases i <;> simp

theorem writeByte (val : Byte) : Statement (.writeByte val) := by
  simp only [Statement, encode, fieldsOf, opOf, opcodeRow, Fields.join]
  ext i hi
  simp only [BitVec.getElem_and, BitVec.getElem_append]
  interval_cases i <;> simp

theorem readByteAck : Statement .readByteAck := by unfold Statement; decide

theorem readByteNack : Statement .readByteNack := by unfold Statement; decide

theorem writeRegister (dev : Addr7) (reg val : Byte) : Statement (.writeRegister dev reg val) := by
  simp only [Statement, encode, fieldsOf, opOf, opcodeRow, Fields.join]
  ext i hi
  simp only [BitVec.getElem_and, BitVec.getElem_append]
  interval_cases i <;> simp

theorem readRegister (dev : Addr7) (reg len : Byte) : Statement (.readRegister dev reg len) := by
  simp only [Statement, encode, fieldsOf, opOf, opcodeRow, Fields.join]
  ext i hi
  simp only [BitVec.getElem_and, BitVec.getElem_append]
  interval_cases i <;> simp

end Sys2Proof.Laws.RowMatch
end

