-- ==== Sys2Proof/Laws/Safety.lean ====
section
/-!
SUPPORT. The small lemmas of the terms claims are stated in: the frames of the two transactions as phases, the views of
an event, and what a conforming environment answers to a phase.
-/

namespace Sys2Proof.Safety

open Sys2Proof.Machine

/-- The frame of R96, phase by phase. -/
@[simp] theorem framePhases_writeRegister (dev : Addr7) (reg val : Byte) :
    framePhases (.writeRegister dev reg val) =
      [.start, .addr (addrByte dev .write), .tx reg, .tx val, .stop] := rfl

/-- The frame of R97, phase by phase. -/
@[simp] theorem framePhases_readRegister (dev : Addr7) (reg len : Byte) :
    framePhases (.readRegister dev reg len) =
      [.start, .addr (addrByte dev .write), .tx reg, .start, .addr (addrByte dev .read)]
        ++ List.replicate (len.toNat - 1) (.rx true) ++ [.rx false, .stop] := by
  have h : ∀ n, (List.replicate n Instr.readByteAck).filterMap firstPhase = List.replicate n (.rx true) := fun n => by
    induction n with
    | zero => rfl
    | succ n ih => simp [List.replicate_succ, firstPhase, ih]
  simp [framePhases, readFrame, firstPhase, h]

/-- An event is one of a phase exactly when it has a phase. -/
theorem isPhase_eq (e : Event) : isPhase e = (phaseOf e).isSome := by
  cases e <;> rfl

/-- A byte received `Ok` is a byte moved. -/
theorem movedByte_of_receivedByte {e : Event} {d : Byte} (h : receivedByte e = some d) : movedByte e = some d := by
  unfold receivedByte at h
  split at h
  · split at h <;> simp_all [movedByte]
  · split at h <;> simp_all [movedByte]
  · cases h

/-- EA6: a line held low answers `Never`. -/
theorem conforming_lineLow {bus : Bus} (h : bus.lineLow = true) (ph : Phase) (r : PhaseResult) :
    conforming bus ph r ↔ r = .never := by
  simp [conforming, h]

/-- EA5: a stop on a bus that is free to be released is cleared. -/
theorem conforming_stop {bus : Bus} (hl : bus.lineLow = false) (hr : bus.releasable = true) (r : PhaseResult) :
    conforming bus .stop r ↔ ∃ k, r = .cleared k := by
  cases r <;> simp [conforming, hl, hr]

/-- EA6: an absent device is answered with the not-acknowledged status. -/
theorem conforming_absent {bus : Bus} {b : Byte} (hl : bus.lineLow = false) (hd : b.extractLsb' 1 7 ∉ bus.devices)
    (r : PhaseResult) : conforming bus (.addr b) r ↔ ∃ k data, r = .done k (addrNackCode b) data := by
  cases r <;> simp [conforming, hl, hd]

end Sys2Proof.Safety
end

