-- ==== Sys2Proof/Tests/Slice0.lean ====
section
/-!
SUPPORT. Tests of the model against the vectors of spec/95_test_vectors.md, the smoke test of WellFormed, and, for every
statement with hypotheses, a witness that meets them.
-/

namespace Sys2Proof.Tests

open Sys2Proof.Machine Sys2Proof.Safety

/-! ### WellFormed -/

/-- The one ill-formed command: a read of no bytes (R88). -/
theorem test_wf_refuses_zero_length : Instr.wf (.readRegister 0x62 0x8F 0) = false := by decide

theorem test_wf_accepts_one_byte : Instr.wf (.readRegister 0x62 0x8F 1) = true := by decide

/-! ### Decoding: words written out from R85 and R87, field by field: OP, 000, RW, 0, DEV, REG, VAL -/

theorem test_decode_init : decode 0b0001_000_0_0_0000000_00000000_00000000#32 = .ok .init := by decide

theorem test_decode_start : decode 0b0010_000_0_0_0000000_00000000_00000000#32 = .ok .start := by decide

theorem test_decode_stop : decode 0b0011_000_0_0_0000000_00000000_00000000#32 = .ok .stop := by decide

theorem test_decode_send_address_write :
    decode 0b0100_000_0_0_1100010_00000000_00000000#32 = .ok (.sendAddress 0x62 .write) := by decide

theorem test_decode_send_address_read :
    decode 0b0100_000_1_0_1111111_00000000_00000000#32 = .ok (.sendAddress 0x7F .read) := by decide

theorem test_decode_write_byte :
    decode 0b0101_000_0_0_0000000_00000000_10001111#32 = .ok (.writeByte 0x8F) := by decide

theorem test_decode_read_byte_ack : decode 0b0110_000_0_0_0000000_00000000_00000000#32 = .ok .readByteAck := by decide

theorem test_decode_read_byte_nack : decode 0b0111_000_0_0_0000000_00000000_00000000#32 = .ok .readByteNack := by decide

theorem test_decode_write_register :
    decode 0b1000_000_0_0_1100010_00000000_00000100#32 = .ok (.writeRegister 0x62 0x00 0x04) := by decide

theorem test_decode_read_register :
    decode 0b1001_000_0_0_1100010_10001111_11111111#32 = .ok (.readRegister 0x62 0x8F 255) := by decide

/-- V22. -/
theorem test_encode_read_register : encode (.readRegister 0x62 0x10 3) = 0x90621003#32 := by decide

/-- V23: undefined OP, checked before anything else. -/
theorem test_refuse_op : decode 0x00000000#32 = .error .undefinedOp ∧ decode 0xA0000000#32 = .error .undefinedOp ∧
    decode 0xF0620004#32 = .error .undefinedOp := by decide

/-- V23: a reserved bit or an unused field. -/
theorem test_refuse_unused : decode 0x12000000#32 = .error .unusedField ∧ decode 0x40E20000#32 = .error .unusedField ∧
    decode 0x51000000#32 = .error .unusedField ∧ decode 0x60000100#32 = .error .unusedField ∧
    decode 0x81620004#32 = .error .unusedField ∧ decode 0x91628F00#32 = .error .unusedField := by decide

/-- V23: a read of no bytes. -/
theorem test_refuse_zero_length : decode 0x90628F00#32 = .error .zeroLength := by decide

/-- The host's entry point on a table row. -/
theorem test_decode_table_word : decodeTableWord 32 0x41620000 = some (.sendAddress 0x62 .read) := by decide

/-! ### The classifier, CTRL and the response word -/

/-- V20, V21: the eleven named values, two others, and a value with a low bit set. -/
theorem test_classify : classify 0x08 = .startSent ∧ classify 0x10 = .repStartSent ∧ classify 0x18 = .addrAck .write ∧
    classify 0x20 = .addrNack .write ∧ classify 0x28 = .dataTxAck ∧ classify 0x30 = .dataTxNack ∧
    classify 0x38 = .arbLost ∧ classify 0x40 = .addrAck .read ∧ classify 0x48 = .addrNack .read ∧
    classify 0x50 = .dataRxAck ∧ classify 0x58 = .dataRxNack ∧ classify 0x00 = .other ∧ classify 0xF8 = .other ∧
    classify 0x1B = .addrAck .write := by decide

/-- R21, R27: the bit positions of CTRL, and a reserved bit written as 1. -/
theorem test_ctrl_bits : (Ctrl.byte ⟨true, false, true, false, true⟩) = 0xA4#8 ∧
    (Ctrl.byte ⟨false, true, false, true, true⟩) = 0x54#8 ∧ Ctrl.idleEnabled.byte = 0x04#8 ∧
    (Ctrl.ofByte 0x0B).byte = 0x00#8 := by decide

/-- V24. -/
theorem test_address_byte : addrByte 0x62 .write = 0xC4#8 ∧ addrByte 0x62 .read = 0xC5#8 ∧
    addrByte 0x7F .write = 0xFE#8 ∧ addrByte 0x01 .read = 0x03#8 := by decide

/-- V25. -/
theorem test_response_words : responseWord (.outcome .timeout) 1 0 = 0x40000100#32 ∧
    responseWord (.outcome (.hardwareStatus 0x38)) 1 0 = 0x80380100#32 ∧
    responseWord (.refused 0x03) 0 0 = 0xC0030000#32 ∧ responseWord (.outcome .ok) 255 0 = 0x0000FF00#32 := by decide

/-! ### Single steps -/

/-- `D(k, c, d)` of 95_test_vectors.md, with the code given by its bits 7:3; also `C(k)`, whose code and byte are not
looked at. -/
def seen (k : Nat) (code : BitVec 5) (d : Byte := 0) : Config.Answer := { delay := some k, code := code, data := d }

/-- `N` of 95_test_vectors.md. -/
def never : Config.Answer := { delay := none, code := 0, data := 0 }

/-- An enabled controller in a bus phase, with a script of answers. -/
def ready (bp : BusPhase) (env : List Config.Answer) : State :=
  { State.reset with ctrl := Ctrl.idleEnabled, bp := bp, env := env }

/-- CTRL, RSP and BP of a next state. -/
def shown (o : Host.Outcome State Fault Refusal) : Option (Byte × Word × BusPhase) :=
  match o with
  | .next t => some (t.ctrl.byte, t.rsp, t.bp)
  | _ => none

/-- STATUS, DATA and BUDGET of a next state. -/
def shownRegs (o : Host.Outcome State Fault Refusal) : Option (Byte × Byte × Byte) :=
  match o with
  | .next t => some (t.status, t.data, t.budget)
  | _ => none

/-- TRACE of a next state. -/
def shownTrace (o : Host.Outcome State Fault Refusal) : Option (List Event) :=
  match o with
  | .next t => some t.trace
  | _ => none

/-- IDX and two entries of RXBUF of a next state. -/
def shownBytes (o : Host.Outcome State Fault Refusal) (i j : Byte) : Option (Byte × Option Byte × Option Byte) :=
  match o with
  | .next t => some (t.idx, rxbufRead t.rxbuf i, rxbufRead t.rxbuf j)
  | _ => none

/-- V53. -/
theorem test_init : shown (exec .init State.reset) = some (0x04, 0x00000000, .idle) := by decide

/-- V54: from UNKNOWN the pending start is dropped. -/
theorem test_init_unknown :
    shown (exec .init { ready .unknown [] with pend := some .start }) = some (0x04, 0x00000000, .idle) := by decide

/-- V31. -/
theorem test_start : shown (exec .start (ready .tx [seen 1 0x02])) = some (0xA4, 0x00000000, .started) := by decide

/-- V34. -/
theorem test_start_other : shown (exec .start (ready .idle [seen 0 0x05])) = some (0xA4, 0x80280000, .unknown) := by decide

/-- V51. -/
theorem test_stop : shown (exec .stop (ready .rxLast [seen 1 0])) = some (0x04, 0x00000000, .idle) := by decide

/-- V52. -/
theorem test_stop_expired : shown (exec .stop (ready .tx [never])) = some (0x14, 0x40000000, .unknown) := by decide

/-- V33: the recovery stop expires and the status is still the answer. -/
theorem test_send_address_nack :
    shown (exec (.sendAddress 0x62 .write) (ready .started [seen 10 0x04, never])) = some (0x14, 0x80200000, .unknown) := by
  decide

/-- V38: the other direction's acknowledged status releases the bus. -/
theorem test_send_address_other_direction :
    shownTrace (exec (.sendAddress 0x62 .write) (ready .started [seen 8 0x08])) =
      some [.phase (.addr 0xC4) (.completed 0x40 none), .release] := by decide

/-- V43. -/
theorem test_write_byte_nack :
    shown (exec (.writeByte 0x8F) (ready .tx [seen 9 0x06, seen 1 0])) = some (0x04, 0x80300000, .idle) := by decide

/-- V42. -/
theorem test_write_byte :
    shownRegs (exec (.writeByte 0x8F) (ready .tx [seen 9 0x05])) = some (0x28, 0x8F, 241) := by decide

/-- V46. -/
theorem test_read_byte_ack :
    shown (exec .readByteAck (ready .rx [seen 8 0x0A 0xA7])) = some (0xC4, 0x000000A7, .rx) := by decide

/-- V47: a byte that arrived under the wrong status is not delivered. -/
theorem test_read_byte_ack_other :
    shown (exec .readByteAck (ready .rx [seen 8 0x0B 0x33])) = some (0x04, 0x80580000, .idle) := by decide

/-- V48. -/
theorem test_read_byte_nack :
    shown (exec .readByteNack (ready .rx [seen 8 0x0B 0x0A])) = some (0x84, 0x0000000A, .rxLast) := by decide

/-- V49. -/
theorem test_read_byte_nack_lost :
    shown (exec .readByteNack (ready .rx [seen 2 0x07 0])) = some (0x04, 0x80380000, .idle) := by decide

/-- V1. -/
theorem test_write_register :
    shownTrace (exec (.writeRegister 0x62 0x00 0x04)
      (ready .idle [seen 3 0x01, seen 10 0x03, seen 9 0x05, seen 9 0x05, seen 1 0])) =
      some [.phase .start (.completed 0x08 none), .phase (.addr 0xC4) (.completed 0x18 none),
        .phase (.tx 0x00) (.completed 0x28 none), .phase (.tx 0x04) (.completed 0x28 none),
        .phase .stop .stopCleared] := by decide

/-- V2: not acknowledged at the value: one stop, no final stop. -/
theorem test_write_register_nack :
    shown (exec (.writeRegister 0x62 0x00 0x04)
      (ready .idle [seen 1 0x01, seen 10 0x03, seen 9 0x05, seen 9 0x06, seen 0 0])) =
      some (0x04, 0x80300000, .idle) := by decide

/-- V4. -/
theorem test_read_register :
    shownBytes (exec (.readRegister 0x62 0x8F 2)
      (ready .idle [seen 0 0x01, seen 8 0x03, seen 8 0x05, seen 1 0x02, seen 8 0x08, seen 8 0x0A 0x00,
        seen 8 0x0B 0x0A, seen 0 0])) 0 1 = some (2, some 0x00, some 0x0A) := by decide

/-- V65: the second byte loses arbitration and is not stored. -/
theorem test_read_register_fails :
    shown (exec (.readRegister 0x62 0x10 3)
      (ready .idle [seen 0 0x01, seen 8 0x03, seen 8 0x05, seen 1 0x02, seen 8 0x08, seen 8 0x0A 0x11,
        seen 8 0x07 0x22])) = some (0x04, 0x80380100, .idle) := by decide

/-- V71: before `INIT` a command times out. -/
theorem test_start_disabled : shown (exec .start State.reset) = some (0x20, 0x40000000, .unknown) := by decide

/-- V23, P5: an illegal word presented after reset. -/
theorem test_step_illegal :
    shown (step (State.reset.withFetchWord 32 0x20000001)) = some (0x00, 0xC0020000, .idle) := by decide

/-! ### Witnesses: states and operands that meet the hypotheses of the statements, clause by clause -/

theorem witness_DecodeOfEncode : Instr.wf (.readRegister 0x7F 0xFF 255) = true := by decide

theorem witness_EncodeOfDecode : decode 0x807FFFFF#32 = .ok (.writeRegister 0x7F 0xFF 0xFF) := by decide

theorem witness_OpcodeMapIsExact : opcodeRow (.readRegister 0 0 0) ∈ opcodeMap ∧
    decode 0x90628F01#32 = .ok (.readRegister 0x62 0x8F 1) ∧ 0x90628F00#32 &&& 0xFF800000#32 = 0x90000000#32 := by
  decide

/-- One word for each clause of `DecodeChecksInOrder`. -/
theorem witness_DecodeChecksInOrder :
    ((0xA0000000#32).extractLsb' 28 4 = 0xA#4) ∧
    ((0x91628F00#32).extractLsb' 28 4 = 0x9#4 ∧
      ∀ r ∈ opcodeMap, 0x91628F00#32 &&& 0xF0000000#32 = r.mtch → 0x91628F00#32 &&& r.mask ≠ r.mtch) ∧
    (¬ (∀ r ∈ opcodeMap, 0x90628F00#32 &&& 0xF0000000#32 = r.mtch → 0x90628F00#32 &&& r.mask ≠ r.mtch) ∧
      (0x90628F00#32).extractLsb' 28 4 = 0x9#4 ∧ (0x90628F00#32).extractLsb' 0 8 = 0#8) ∧
    (¬ (∀ r ∈ opcodeMap, 0x90628F01#32 &&& 0xF0000000#32 = r.mtch → 0x90628F01#32 &&& r.mask ≠ r.mtch) ∧
      (0x90628F01#32).extractLsb' 0 8 ≠ 0#8) := by decide

/-- A quiet block with one entry of input. -/
def given (inp : Input) : State := { ready .idle [] with inputs := [inp] }

/-- A block whose Engine awaits a phase it has just launched. -/
def sampling (ph : Phase) (kept : Option BusOutcome) : State :=
  { ready .idle [] with
    busy := true, seq := .prim, ctl := .sample ph kept, budget := 250#8, pend := some ph
    ctrl := Ctrl.idleEnabled.launch ph.sta ph.sto ph.aen }

theorem witness_StepRunsDecodedCommand : (given (.command 0x20000000#32)).busy = false ∧
    (given (.command 0x20000000#32)).inputs = .command 0x20000000#32 :: [] ∧ decode 0x20000000#32 = .ok .start := by
  decide

theorem witness_IllegalWordIsRefused : (given (.command 0#32)).busy = false ∧ (given (.command 0#32)).seq = .idle ∧
    (given (.command 0#32)).ctl = .idle ∧ (given (.command 0#32)).inputs = .command 0#32 :: [] ∧
    decode 0#32 = .error .undefinedOp := by decide

theorem witness_WordWhileBusyHasNoEffect : (sampling .start none).busy = true := by decide

theorem witness_QuietBlockWaits : (given .idle).busy = false ∧ (given .idle).inputs = .idle :: [] ∧
    (ready .idle []).busy = false ∧ (ready .idle []).inputs = [] := by decide

theorem witness_ResetAtAnyMoment : { sampling .start none with inputs := [.reset] }.inputs = .reset :: [] := by decide

theorem witness_InitCompletes : (ready .idle []).bp = .idle ∧ (ready .unknown []).bp = .unknown := by decide

/-- The latest completion that is seen, each kind of status, and a completion too late to be seen. -/
theorem witness_StartEndsAsItsStatusSays :
    (ready .unknown [seen 249 0x01]).ctrl.en = true ∧
    (ready .unknown [seen 249 0x01]).bp ∈ [BusPhase.idle, .tx, .rxLast, .unknown] ∧
    (ready .unknown [seen 249 0x01]).env = seen 249 0x01 :: [] ∧
    seenAt (seen 249 0x01) = some 249 ∧ codeOf (seen 249 0x01) = 0x08#8 ∧ codeOf (seen 0 0x02) = 0x10#8 ∧
    codeOf (seen 0 0x07) = 0x38#8 ∧ codeOf (seen 0 0x1F) = 0xF8#8 ∧ seenAt (seen 250 0x01) = none ∧
    seenAt never = none := by decide

theorem witness_StopEndsClearedOrExpired :
    (ready .tx [seen 0 0]).ctrl.en = true ∧ (ready .tx [seen 0 0]).bp ∈ [BusPhase.tx, .rxLast, .unknown] ∧
    (ready .tx [seen 0 0]).env = seen 0 0 :: [] ∧ seenAt (seen 0 0) = some 0 ∧ seenAt never = none := by decide

theorem witness_SendAddressEndsAsItsStatusSays :
    (ready .started [seen 0 0x04, seen 249 0]).ctrl.en = true ∧ (ready .started [seen 0 0x04, seen 249 0]).bp = .started ∧
    (ready .started [seen 0 0x04, seen 249 0]).env = seen 0 0x04 :: [seen 249 0] ∧ seenAt (seen 0 0x04) = some 0 ∧
    codeOf (seen 0 0x04) = 0x20#8 ∧ codeOf (seen 0 0x09) = 0x48#8 ∧ codeOf (seen 0 0x03) = 0x18#8 ∧
    codeOf (seen 0 0x08) = 0x40#8 ∧ codeOf (seen 0 0x00) = 0x00#8 ∧ seenAt (seen 249 0) = some 249 ∧
    seenAt never = none := by decide

theorem witness_WriteByteEndsAsItsStatusSays :
    (ready .tx [seen 0 0x06, never]).ctrl.en = true ∧ (ready .tx [seen 0 0x06, never]).bp = .tx ∧
    (ready .tx [seen 0 0x06, never]).env = seen 0 0x06 :: [never] ∧ seenAt (seen 0 0x06) = some 0 ∧
    codeOf (seen 0 0x06) = 0x30#8 ∧ codeOf (seen 0 0x05) = 0x28#8 ∧ codeOf (seen 0 0x07) = 0x38#8 ∧
    seenAt (seen 3 0) = some 3 ∧ seenAt never = none := by decide

theorem witness_ReadByteAckEndsAsItsStatusSays :
    (ready .rx [seen 8 0x0A 0xA7]).ctrl.en = true ∧ (ready .rx [seen 8 0x0A 0xA7]).bp = .rx ∧
    (ready .rx [seen 8 0x0A 0xA7]).env = seen 8 0x0A 0xA7 :: [] ∧ seenAt (seen 8 0x0A 0xA7) = some 8 ∧
    codeOf (seen 8 0x0A 0xA7) = 0x50#8 ∧ codeOf (seen 8 0x0B) = 0x58#8 ∧ seenAt never = none := by decide

theorem witness_ReadByteNackEndsAsItsStatusSays :
    (ready .rx [seen 8 0x0B 0x0A]).ctrl.en = true ∧ (ready .rx [seen 8 0x0B 0x0A]).bp = .rx ∧
    (ready .rx [seen 8 0x0B 0x0A]).env = seen 8 0x0B 0x0A :: [] ∧ seenAt (seen 8 0x0B 0x0A) = some 8 ∧
    codeOf (seen 8 0x0B 0x0A) = 0x58#8 ∧ codeOf (seen 8 0x0A) = 0x50#8 ∧ seenAt never = none := by decide

/-- The answers of V1. -/
def writeAnswers : List Config.Answer := [seen 3 0x01, seen 10 0x03, seen 9 0x05, seen 9 0x05, seen 1 0]

theorem witness_WriteRegisterSucceeds :
    (ready .idle writeAnswers).ctrl.en = true ∧
    (ready .idle writeAnswers).bp ∈ [BusPhase.idle, .tx, .rxLast, .unknown] ∧
    (ready .idle writeAnswers).env = seen 3 0x01 :: seen 10 0x03 :: seen 9 0x05 :: seen 9 0x05 :: seen 1 0 :: [] ∧
    (∀ a ∈ [seen 3 0x01, seen 10 0x03, seen 9 0x05, seen 9 0x05], seenAt a ≠ none) ∧ seenAt (seen 1 0) = some 1 ∧
    codeOf (seen 3 0x01) = 0x08#8 ∧ codeOf (seen 10 0x03) = 0x18#8 ∧ codeOf (seen 9 0x05) = 0x28#8 := by decide

/-- The answers of V4. -/
def readAnswers : List Config.Answer :=
  [seen 0 0x01, seen 8 0x03, seen 8 0x05, seen 1 0x02, seen 8 0x08, seen 8 0x0A 0x00, seen 8 0x0B 0x0A, seen 0 0]

theorem witness_ReadRegisterDeliversBytes :
    (ready .rxLast readAnswers).ctrl.en = true ∧
    (ready .rxLast readAnswers).bp ∈ [BusPhase.idle, .tx, .rxLast, .unknown] ∧ (2 : Byte) ≠ 0#8 ∧
    (ready .rxLast readAnswers).env = seen 0 0x01 :: seen 8 0x03 :: seen 8 0x05 :: seen 1 0x02 :: seen 8 0x08 ::
      ([seen 8 0x0A 0x00, seen 8 0x0B 0x0A] ++ seen 0 0 :: []) ∧
    [seen 8 0x0A 0x00, seen 8 0x0B 0x0A].length = (2 : Byte).toNat ∧
    (∀ a ∈ seen 0 0x01 :: seen 8 0x03 :: seen 8 0x05 :: seen 1 0x02 :: seen 8 0x08 ::
      [seen 8 0x0A 0x00, seen 8 0x0B 0x0A], seenAt a ≠ none) ∧ seenAt (seen 0 0) = some 0 ∧
    codeOf (seen 0 0x01) = 0x08#8 ∧ codeOf (seen 8 0x03) = 0x18#8 ∧ codeOf (seen 8 0x05) = 0x28#8 ∧
    codeOf (seen 1 0x02) = 0x10#8 ∧ codeOf (seen 8 0x08) = 0x40#8 ∧ codeOf (seen 8 0x0A 0x00) = 0x50#8 ∧
    codeOf (seen 8 0x0B 0x0A) = 0x58#8 := by decide

/-- The per-byte status hypothesis of `ReadRegisterDeliversBytes`, at both bytes of V4. -/
theorem witness_ReadRegisterDeliversBytes_codes :
    ∀ j (h : j < [seen 8 0x0A 0x00, seen 8 0x0B 0x0A].length),
      codeOf [seen 8 0x0A 0x00, seen 8 0x0B 0x0A][j] = if j + 1 < (2 : Byte).toNat then 0x50#8 else 0x58#8 := by
  decide

theorem witness_ReadRegisterIsItsFrame : (1 : Byte) ≠ 0#8 ∧ (255 : Byte) ≠ 0#8 := by decide

/-- A read of V4 that answers `Ok`, one that times out at its first phase, and V66, of which only the final stop expires. -/
theorem witness_ReadRegisterCountAndBuffer :
    (shown (exec (.readRegister 0x62 0x8F 2) (ready .idle readAnswers))).isSome = true ∧
    (shown (exec (.readRegister 0x62 0x8F 2) (ready .idle [never]))).isSome = true ∧
    shown (exec (.readRegister 0x62 0x8F 2) (ready .idle (readAnswers.dropLast ++ [never]))) =
      some (0x14, 0x40000200, .unknown) := by decide

theorem witness_ResponseOfEveryCommand : Instr.wf .start = true ∧
    shown (exec .start (ready .idle [seen 5 0x07])) = some (0x04, 0x80380000, .idle) ∧
    shown (exec .start (ready .idle [never])) = some (0x24, 0x40000000, .unknown) := by decide

/-- A command in its order, and one out of it. -/
theorem witness_CommandsRunExactlyInTheirOrder : Instr.wf .stop = true ∧ (ready .tx []).ctrl.en = true ∧
    Instr.mnemonic .stop ∈ mayFollow (ready .tx []).bp ∧ Instr.mnemonic .stop ∉ mayFollow (ready .idle []).bp := by
  decide

theorem witness_DisabledCommandTimesOut : Instr.wf (.writeByte 0x8F) = true ∧ State.reset.ctrl.en = false ∧
    Instr.writeByte 0x8F ≠ .init := by decide

theorem witness_TimeoutRecoversNothing : Instr.wf (.writeByte 0x8F) = true ∧ (ready .tx [never]).ctrl.en = true ∧
    Instr.writeByte 0x8F ≠ .init ∧ Instr.mnemonic (.writeByte 0x8F) ∈ mayFollow (ready .tx [never]).bp ∧
    (ready .tx [never]).env = never :: [] ∧ seenAt never = none := by decide

/-- Failures that resolve the bus and failures that do not, the recovery stop's expiry among them. -/
theorem witness_FailureLeavesBusResolvedOrUnknown : Instr.wf (.sendAddress 0x62 .write) = true ∧
    shown (exec (.sendAddress 0x62 .write) (ready .started [seen 3 0x07])) = some (0x04, 0x80380000, .idle) ∧
    shown (exec (.sendAddress 0x62 .write) (ready .started [seen 3 0x04, never])) = some (0x14, 0x80200000, .unknown) ∧
    rspTag 0x80200000#32 ≠ 0#2 ∧ rspTag 0x40000000#32 = 1#2 := by decide

theorem witness_PhasesOfACommandAreBounded :
    (shown (exec (.writeByte 0x8F) (ready .tx [seen 9 0x06, never]))).isSome = true := by decide

theorem witness_FrameOfPolledCommands : Instr.stop ≠ .init ∧ Instr.mnemonic .stop ≠ "READ_REGISTER" ∧
    (shown (exec .stop (ready .tx [never]))).isSome = true := by decide

theorem witness_DataAndStatusFrame : (shown (exec .init (ready .idle []))).isSome = true ∧
    (shown (exec .stop (ready .tx [never]))).isSome = true ∧ (shown (exec .start (ready .idle [never]))).isSome = true ∧
    (shown (exec (.sendAddress 0x7F .read) (ready .started [never]))).isSome = true ∧
    (shown (exec (.writeByte 0xFF) (ready .tx [never]))).isSome = true := by decide

/-- A bus with no device on it, free, neither line held low. -/
def openBus : Bus := { held := false, releasable := true, lineLow := false, devices := [] }

theorem witness_ConformingStartIsResolved : (ready .idle [seen 0 0x07]).ctrl.en = true ∧
    (ready .idle [seen 0 0x07]).bp ∈ [BusPhase.idle, .tx, .rxLast, .unknown] ∧
    (ready .idle [seen 0 0x07]).env = seen 0 0x07 :: [] ∧ openBus.lineLow = false ∧
    conforming openBus .start (resultOf (seen 0 0x07) .start) ∧
    conforming { openBus with held := true } .start (resultOf (seen 249 0x02) .start) :=
  ⟨by decide, by decide, by decide, by decide, Or.inr (by decide), Or.inl (by decide)⟩

/-- EA5 and EA6: a stop may stay unanswered on a bus that is not free to be released alone, and a device that is present may
answer. -/
theorem test_conforming : conforming { openBus with releasable := false } .stop (resultOf never .stop) ∧
    ¬ conforming openBus .stop (resultOf never .stop) ∧
    ¬ conforming openBus (.addr 0xC4) (resultOf (seen 8 0x03) (.addr 0xC4)) ∧
    conforming { openBus with devices := [0x62] } (.addr 0xC4) (resultOf (seen 8 0x03) (.addr 0xC4)) :=
  ⟨rfl, fun h : true = false => absurd h (by decide), fun h : 0x18#8 = 0x20#8 => absurd h (by decide),
    Or.inl (by decide)⟩

/-- Both directions of `AbsentDeviceIsNotAcknowledged`. -/
theorem witness_AbsentDeviceIsNotAcknowledged :
    (ready .started [seen 8 0x04, seen 249 0]).ctrl.en = true ∧ (ready .started [seen 8 0x04, seen 249 0]).bp = .started ∧
    (ready .started [seen 8 0x04, seen 249 0]).env = seen 8 0x04 :: seen 249 0 :: [] ∧ openBus.lineLow = false ∧
    0x62 ∉ openBus.devices ∧ openBus.releasable = true ∧
    conforming openBus (.addr (addrByte 0x62 .write)) (resultOf (seen 8 0x04) (.addr (addrByte 0x62 .write))) ∧
    conforming openBus (.addr (addrByte 0x62 .read)) (resultOf (seen 8 0x09) (.addr (addrByte 0x62 .read))) ∧
    conforming openBus .stop (resultOf (seen 249 0) .stop) :=
  ⟨by decide, by decide, by decide, by decide, by decide, by decide, (rfl : 0x20#8 = 0x20#8), (rfl : 0x48#8 = 0x48#8),
    trivial⟩

theorem witness_HeldLineTimesOut : Instr.wf .stop = true ∧ (ready .tx [never]).ctrl.en = true ∧
    Instr.mnemonic .stop ∈ mayFollow (ready .tx [never]).bp ∧ firstPhase .stop = some .stop ∧
    (ready .tx [never]).env = never :: [] ∧ { openBus with lineLow := true }.lineLow = true ∧
    conforming { openBus with lineLow := true } .stop (resultOf never .stop) :=
  ⟨by decide, by decide, by decide, by decide, by decide, by decide, rfl⟩

/-- Each clause of `LateCompletion`: nothing pending, a disabled Core, a pending stop, a pending receive. -/
theorem witness_LateCompletion : (given (.coreComplete 1 2)).inputs = .coreComplete 1 2 :: [] ∧
    (given (.coreComplete 1 2)).pend = none ∧
    { given (.coreComplete 1 2) with pend := some .stop }.ctrl.en = true ∧
    { given (.coreComplete 1 2) with pend := some (.rx true) }.pend = some (.rx true) ∧ Phase.rx true ≠ .stop ∧
    { given (.coreComplete 1 2) with ctrl := Ctrl.zero }.ctrl.en = false := by decide

theorem witness_LateCompletionChangesNoCommand : Instr.wf .start = true ∧
    (shown (exec .start { ready .unknown [never] with pend := some (.rx true) })).isSome = true := by decide

theorem witness_MicroPollSeesCompletion : 249 < Config.pollLimit ∧ (0 = 2 * 0 ∨ 0 + 1 = 2 * 0) ∧
    (497 = 2 * 249 ∨ 497 + 1 = 2 * 249) ∧ (sampling (.rx true) none).busy = true ∧
    (sampling (.rx true) none).ctl = .sample (.rx true) none ∧
    (sampling (.rx true) none).budget = BitVec.ofNat 8 Config.pollLimit ∧ Phase.rx true ≠ .stop ∧
    (sampling (.rx true) none).ctrl.done = false ∧ (sampling (.rx true) none).ctrl.en = true ∧
    (sampling (.rx true) none).pend = some (.rx true) ∧
    { sampling (.rx true) none with inputs := [.idle, .coreComplete 0x0A 7, .idle, .idle] }.inputs =
      List.replicate 1 Input.idle ++ .coreComplete 0x0A 7 :: (List.replicate (2 * 1 + 1 - 1) .idle ++ []) := by decide

theorem witness_MicroPollSeesCompletion_stop : (sampling .stop (some .timeout)).busy = true ∧
    (sampling .stop (some .timeout)).ctl = .sample .stop (some .timeout) ∧
    (sampling .stop (some .timeout)).budget = BitVec.ofNat 8 Config.pollLimit ∧
    (sampling .stop (some .timeout)).ctrl.sto = true ∧ (sampling .stop (some .timeout)).ctrl.en = true ∧
    (sampling .stop (some .timeout)).pend = some .stop ∧
    { sampling .stop (some .timeout) with inputs := [.coreComplete 0 0, .idle] }.inputs =
      List.replicate 0 Input.idle ++ .coreComplete 0 0 :: (List.replicate (2 * 0 + 1 - 0) .idle ++ []) := by decide

theorem witness_MicroPollExpires : (sampling .stop (some .timeout)).busy = true ∧
    (sampling .stop (some .timeout)).ctl = .sample .stop (some .timeout) ∧
    (sampling .stop (some .timeout)).budget = BitVec.ofNat 8 Config.pollLimit ∧
    (sampling .stop (some .timeout)).ctrl.done = false ∧ (sampling .stop (some .timeout)).ctrl.sto = true := by decide

theorem witness_MicroPollExpires_inputs :
    { sampling .start none with inputs := List.replicate (2 * Config.pollLimit) Input.idle ++ [] }.inputs =
      List.replicate (2 * Config.pollLimit) Input.idle ++ [] := rfl

theorem witness_MicroStepsRunEveryCommand : (ready .idle [never]).busy = false ∧ (ready .idle [never]).ctl = .idle ∧
    (shown (step { ready .idle [never] with inputs := [.command 0x20000000#32] })).isSome = true := by decide

/-- The state after reset with a status of the tests' own, so that it can be computed, and `INIT` presented. -/
def booting : State := { State.reset with status := 0#8, inputs := [.command 0x10000000#32] }

theorem witness_EveryStepKeepsInvariant : Inv booting where
  statusLow := by decide
  budgetLe := by decide
  budgetPos := by rintro ph kept (h | h) <;> cases h
  quietSeq := fun _ => rfl
  quietCtl := ⟨fun _ => rfl, fun _ => rfl⟩
  pendRequest := by rintro ph h; cases h
  disabled := fun _ => ⟨rfl, rfl, .inl rfl, by rintro ph h; cases h⟩

theorem witness_EveryStepKeepsInvariant_step : shown (step booting) = some (0x04, 0x00000000, .idle) := by decide

/-- For `TraceOnlyGrows` and `OnlyResetDisables`. -/
theorem witness_TraceOnlyGrows_OnlyResetDisables : (given .idle).inputs.head? ≠ some .reset ∧ (given .idle).ctrl.en = true ∧
    (shown (step (given .idle))).isSome = true := by decide

theorem witness_ReleaseMicroStep : { sampling .start none with ctl := .release .timeout }.busy = true ∧
    { sampling .start none with ctl := .release .timeout }.ctl = .release .timeout ∧
    { sampling .start none with ctl := .release .timeout }.inputs = [] := by decide

end Sys2Proof.Tests
end

section
/-!
PROOFS. The decoder read backwards (R85 to R91): the fields of a word that decodes are the fields of its command, and the
command is well-formed.
-/

namespace Sys2Proof

/-- What the three checks of R89 let through. -/
theorem decodeFields_ok {f : Fields} {i : Instr} (h : decodeFields f = .ok i) :
    opDefined f.op = true ∧ unusedClear f = true ∧ (f.op = 9#4 → lenOk f.val = true) ∧ assemble f = i := by
  unfold decodeFields at h
  split at h
  · cases h
  · split at h
    · cases h
    · split at h
      · cases h
      · simp_all

/-- The nine values of OP. -/
theorem opDefined_cases : ∀ op : BitVec 4, opDefined op = true →
    op = 1#4 ∨ op = 2#4 ∨ op = 3#4 ∨ op = 4#4 ∨ op = 5#4 ∨ op = 6#4 ∨ op = 7#4 ∨ op = 8#4 ∨ op = 9#4 := by
  decide

/-- A word that decodes has the fields of its command. -/
theorem split_of_decode {w : Word} {i : Instr} (h : decode w = .ok i) : Fields.split w = fieldsOf i := by
  obtain ⟨hop, hclear, -, rfl⟩ := decodeFields_ok h
  generalize Fields.split w = f at hop hclear ⊢
  obtain ⟨op, rsvA, rw, rsvB, dev, reg, val⟩ := f
  rcases opDefined_cases op hop with rfl | rfl | rfl | rfl | rfl | rfl | rfl | rfl | rfl <;>
    simp_all [unusedClear, usesRw, usesDev, usesReg, usesVal, assemble, fieldsOf, opOf]

/-- A word that decodes is that of a well-formed command (R88). -/
theorem wf_of_decode {w : Word} {i : Instr} (h : decode w = .ok i) : i.wf = true := by
  obtain ⟨-, -, hlen, -⟩ := decodeFields_ok h
  rw [split_of_decode h] at hlen
  cases i with
  | readRegister dev reg len => exact hlen rfl
  | _ => rfl

end Sys2Proof
end

section
/-!
PROOFS. One micro-step of the machine with the inputs left open, and the micro-steps of the Engine between acceptance and
response, one lemma per control state of R120.
-/

namespace Sys2Proof.Machine

/-! ### The micro-steps that depend on a match or a comparison, case by case -/

theorem tickSetup_phase {s : State} {ph : Phase} (h : seqPhase s.seq s.fields s.idx = some ph) :
    tickSetup s = (s.loadData ph).setCtl (.launch ph none) := by
  simp [tickSetup, h]

theorem tickWait_expires {s : State} {ph : Phase} {kept : Option BusOutcome} (h : s.budget - 1#8 = 0#8) :
    tickWait ph kept s = ({ s with budget := 0#8 }.expire ph).setCtl (.next (kept.getD .timeout) 0#8) := by
  simp [tickWait, h]

theorem tickRead_success {s : State} {ph : Phase} {bp : BusPhase} (h : verdictOf ph s.status = .success bp) :
    tickRead ph s =
      ((s.emit (completedEvent ph s)).setBp bp).setCtl (.next .ok (if ph.isRx then s.data else 0#8)) := by
  simp [tickRead, h]

theorem tickRead_leave {s : State} {ph : Phase} (h : verdictOf ph s.status = .failure .leave) :
    tickRead ph s =
      ((s.emit (completedEvent ph s)).setBp .unknown).setCtl (.next (.hardwareStatus s.status) 0#8) := by
  simp [tickRead, h]

theorem tickRead_stop {s : State} {ph : Phase} (h : verdictOf ph s.status = .failure .stop) :
    tickRead ph s = (s.emit (completedEvent ph s)).setCtl (.launch .stop (some (.hardwareStatus s.status))) := by
  simp [tickRead, h]

theorem tickRead_release {s : State} {ph : Phase} (h : verdictOf ph s.status = .failure .release) :
    tickRead ph s = (s.emit (completedEvent ph s)).setCtl (.release (.hardwareStatus s.status)) := by
  simp [tickRead, h]

theorem tickNext_ok_step {s : State} {q : Seq} (h : seqNext s.seq s.fields s.idx = some q) (hr : s.seq ≠ .r5)
    (d : Byte) : tickNext .ok d s = (s.setSeq q).setCtl .setup := by
  simp [tickNext, h, storeIfReceive, hr]

theorem tickNext_ok_receive {s : State} {q : Seq} (h : seqNext s.seq s.fields s.idx = some q) (hr : s.seq = .r5)
    (d : Byte) : tickNext .ok d s = ((s.storeRx d).setSeq q).setCtl .setup := by
  simp only [tickNext, h, storeIfReceive, if_pos hr]

theorem tickNext_ok_last {s : State} (h : seqNext s.seq s.fields s.idx = none) (d : Byte) :
    tickNext .ok d s = s.setCtl (.respond (.outcome .ok) d) := by
  simp [tickNext, h]

/-! ### One micro-step with the inputs left open -/

/-- An entry that is no act of the host: nothing is presented, or the Core completes its phase (R114). -/
def Input.FromCore (inp : Input) : Prop := inp = .idle ∨ ∃ code d, inp = .coreComplete code d

/-- One step with such an entry, whatever follows it in the inputs. -/
def MicroStep (s t : State) : Prop :=
  ∃ inp : Input, inp.FromCore ∧ ∀ rest, deliver inp (s.beginStep rest) = .next { t with inputs := rest }

/-- Any number of such steps. -/
abbrev MicroSteps : State → State → Prop := Relation.ReflTransGen MicroStep

/-- Micro-steps are a run of the machine over the entries they took. -/
theorem MicroSteps.run {s t : State} (h : MicroSteps s t) :
    ∃ ins : List Input, (∀ inp ∈ ins, inp.FromCore) ∧
      ∀ rest, Host.Core.run core ins.length { s with inputs := ins ++ rest } = .next { t with inputs := rest } := by
  induction h using Relation.ReflTransGen.head_induction_on with
  | refl => exact ⟨[], by simp, fun _ => rfl⟩
  | @head s u hstep _ ih =>
    obtain ⟨inp, hinp, hdeliver⟩ := hstep
    obtain ⟨ins, hins, hrun⟩ := ih
    refine ⟨inp :: ins, List.forall_mem_cons.mpr ⟨hinp, hins⟩, fun rest => ?_⟩
    have hone : core.step { s with inputs := inp :: (ins ++ rest) } = .next { u with inputs := ins ++ rest } :=
      hdeliver (ins ++ rest)
    simp only [List.length_cons, List.cons_append, Host.Core.run]
    rw [hone]
    exact hrun rest

/-- The busy Engine in control state `c` with the registers of `s`, the oracle's script being that of `o`: the micro-steps
leave the script unread (log 4), while the big steps that lead to `s` have consumed some of it. -/
def State.microFrom (s o : State) (c : Control) : State :=
  { s with busy := true, rspValid := false, ctl := c, env := o.env, draws := o.draws }

variable {o s t : State} {c : Control} {ph : Phase} {kept : Option BusOutcome}

/-- With nothing presented, a busy Engine does its micro-step. -/
theorem microStep_of_tick (h : ∀ rest, tick ((s.microFrom o c).beginStep rest) = .next { t with inputs := rest }) :
    MicroStep (s.microFrom o c) t :=
  ⟨.idle, .inl rfl, h⟩

/-- E_SETUP, at a step of SEQ that has a phase. -/
theorem microStep_setup (h : seqPhase s.seq s.fields s.idx = some ph) :
    MicroStep (s.microFrom o .setup) ((s.loadData ph).microFrom o (.launch ph none)) :=
  microStep_of_tick fun rest => by
    refine (congrArg Host.Outcome.next (tickSetup_phase (s := (s.microFrom o .setup).beginStep rest) h)).trans ?_
    cases ph <;> rfl

/-- E_LAUNCH. -/
theorem microStep_launch :
    MicroStep (s.microFrom o (.launch ph kept))
      ({ s.launch ph with budget := budgetAfter 0 }.microFrom o (.sample ph kept)) :=
  microStep_of_tick fun _ => rfl

/-- E_SAMPLE, the flag not seen. -/
theorem microStep_sample_unseen (h : s.ctrl.seen ph = false) :
    MicroStep (s.microFrom o (.sample ph kept)) (s.microFrom o (.wait ph kept)) :=
  microStep_of_tick fun _ => congrArg Host.Outcome.next (if_neg (by simp [State.microFrom, h]))

/-- E_SAMPLE of a phase that is no stop, its DONE seen. -/
theorem microStep_sample_done (hp : ph ≠ .stop) (h : s.ctrl.done = true) :
    MicroStep (s.microFrom o (.sample ph kept)) (s.microFrom o (.read ph)) :=
  microStep_of_tick fun _ => by
    cases ph with
    | stop => exact absurd rfl hp
    | _ => exact congrArg Host.Outcome.next (if_pos h)

/-- E_SAMPLE of a stop phase, its STO seen cleared. -/
theorem microStep_sample_cleared (h : s.ctrl.sto = false) :
    MicroStep (s.microFrom o (.sample .stop kept)) (s.stopCleared.microFrom o (.next (kept.getD .ok) 0#8)) :=
  microStep_of_tick fun _ => congrArg Host.Outcome.next (if_pos (by simp [State.microFrom, Ctrl.seen, h]))

/-- E_WAIT with budget left. -/
theorem microStep_wait (h : s.budget - 1#8 ≠ 0#8) :
    MicroStep (s.microFrom o (.wait ph kept))
      ({ s with budget := s.budget - 1#8 }.microFrom o (.sample ph kept)) :=
  microStep_of_tick fun _ => congrArg Host.Outcome.next (if_neg h)

/-- E_WAIT that uses up the budget. -/
theorem microStep_wait_expires (h : s.budget - 1#8 = 0#8) :
    MicroStep (s.microFrom o (.wait ph kept))
      (({ s with budget := 0#8 }.expire ph).microFrom o (.next (kept.getD .timeout) 0#8)) :=
  microStep_of_tick fun rest =>
    congrArg Host.Outcome.next (tickWait_expires (s := (s.microFrom o (.wait ph kept)).beginStep rest) h)

/-- The Core completes a pending phase that is no stop (R114). -/
theorem microStep_coreDone (hp : ph ≠ .stop) (hpend : s.pend = some ph) (hen : s.ctrl.en = true) (code : BitVec 5)
    (data : Byte) :
    MicroStep (s.microFrom o c) ((s.coreDone ph (code ++ 0#3) data).microFrom o c) := by
  refine ⟨.coreComplete code data, .inr ⟨code, data, rfl⟩, fun rest => ?_⟩
  simp only [deliver, State.coreComplete, State.microFrom, State.beginStep, hpend, hen]
  cases ph with
  | stop => exact absurd rfl hp
  | _ => rfl

/-- The Core completes a pending stop (R114). -/
theorem microStep_coreStopped (hpend : s.pend = some .stop) (hen : s.ctrl.en = true) :
    MicroStep (s.microFrom o c) (s.coreStopped.microFrom o c) := by
  refine ⟨.coreComplete 0 0, .inr ⟨0, 0, rfl⟩, fun rest => ?_⟩
  simp only [deliver, State.coreComplete, State.microFrom, State.beginStep, hpend, hen]
  rfl

/-- E_RELEASE. -/
theorem microStep_release (out : BusOutcome) :
    MicroStep (s.microFrom o (.release out)) (s.release.microFrom o (.next out 0#8)) :=
  microStep_of_tick fun _ => rfl

/-- E_NEXT after `Ok`, when another step follows a step that is no receive. -/
theorem microStep_next_step {q : Seq} (h : seqNext s.seq s.fields s.idx = some q) (hr : s.seq ≠ .r5) (d : Byte) :
    MicroStep (s.microFrom o (.next .ok d)) ((s.setSeq q).microFrom o .setup) :=
  microStep_of_tick fun rest =>
    congrArg Host.Outcome.next (tickNext_ok_step (s := (s.microFrom o (.next .ok d)).beginStep rest) h hr d)

/-- E_NEXT after `Ok`, when another step follows a receive step: the byte is stored (log 23). -/
theorem microStep_next_receive {q : Seq} (h : seqNext s.seq s.fields s.idx = some q) (hr : s.seq = .r5) (d : Byte) :
    MicroStep (s.microFrom o (.next .ok d)) (((s.storeRx d).setSeq q).microFrom o .setup) :=
  microStep_of_tick fun rest =>
    congrArg Host.Outcome.next (tickNext_ok_receive (s := (s.microFrom o (.next .ok d)).beginStep rest) h hr d)

/-- E_NEXT after `Ok` at the last step. -/
theorem microStep_next_last (h : seqNext s.seq s.fields s.idx = none) (d : Byte) :
    MicroStep (s.microFrom o (.next .ok d)) (s.microFrom o (.respond (.outcome .ok) d)) :=
  microStep_of_tick fun rest =>
    congrArg Host.Outcome.next (tickNext_ok_last (s := (s.microFrom o (.next .ok d)).beginStep rest) h d)

/-- E_NEXT after any other outcome (R172). -/
theorem microStep_next_failed {out : BusOutcome} (h : out ≠ .ok) (d : Byte) :
    MicroStep (s.microFrom o (.next out d)) (s.microFrom o (.respond (.outcome out) d)) :=
  microStep_of_tick fun _ => by
    cases out with
    | ok => exact absurd rfl h
    | _ => rfl

/-- E_RESPOND: the state after the response, with the script unread. -/
theorem microStep_respond (r : Response) (d : Byte) :
    MicroStep (s.microFrom o (.respond r d))
      { s.respond r (responseCount r s) d with env := o.env, draws := o.draws } :=
  microStep_of_tick fun _ => by cases r <;> rfl

end Sys2Proof.Machine
end

section
/-!
PROOFS. A phase in micro-steps ends as the big step of R113 does: the poll, the stop phase, and a phase with what its
status calls for.
-/

namespace Sys2Proof.Machine

open Relation

variable {o s : State} {ph : Phase} {kept : Option BusOutcome}

/-! ### The poll (R111, R113) -/

theorem budgetAfter_sub_one {k : Nat} (h : k < Config.pollLimit) : budgetAfter k - 1#8 = budgetAfter (k + 1) := by
  have hl : Config.pollLimit = 250 := rfl
  simp only [budgetAfter, hl] at h ⊢
  apply BitVec.eq_of_toNat_eq
  simp only [BitVec.toNat_sub, BitVec.toNat_ofNat]
  omega

theorem budgetAfter_ne_zero {k : Nat} (h : k < Config.pollLimit) : budgetAfter k ≠ 0#8 := by
  have hl : Config.pollLimit = 250 := rfl
  intro hz
  have hn := congrArg BitVec.toNat hz
  simp only [budgetAfter, hl, BitVec.toNat_ofNat] at h hn
  omega

/-- A Launch clears the flag the phase waits for (R110, R112). -/
theorem launch_unseen (s : State) (ph : Phase) : (s.launch ph).ctrl.seen ph = false := by
  cases ph <;> rfl

/-- `k` samples that do not see the flag, with their waits, leave `POLL_LIMIT` - `k` of the budget. -/
theorem microSteps_unseen (hs : s.ctrl.seen ph = false) {k : Nat} (hk : k < Config.pollLimit) :
    MicroSteps ({ s with budget := budgetAfter 0 }.microFrom o (.sample ph kept))
      ({ s with budget := budgetAfter k }.microFrom o (.sample ph kept)) := by
  induction k with
  | zero => exact .refl
  | succ k ih =>
    have hb : budgetAfter k - 1#8 = budgetAfter (k + 1) := budgetAfter_sub_one (by omega)
    have hwait := microStep_wait (o := o) (ph := ph) (kept := kept) (s := { s with budget := budgetAfter k })
      (hb ▸ budgetAfter_ne_zero hk)
    rw [hb] at hwait
    exact ((ih (by omega)).tail (microStep_sample_unseen hs)).tail hwait

/-- A launched phase whose flag is never seen expires. -/
theorem microSteps_expired :
    MicroSteps (s.microFrom o (.launch ph kept))
      (({ s.launch ph with budget := 0#8 }.expire ph).microFrom o (.next (kept.getD .timeout) 0#8)) := by
  have hs := launch_unseen s ph
  have hlast : budgetAfter 249 - 1#8 = 0#8 := by decide
  exact (((microSteps_unseen hs (k := 249) (by decide)).head microStep_launch).tail
    (microStep_sample_unseen hs)).tail (microStep_wait_expires hlast)

/-- A launched phase that is no stop, completed before sample `k` by an enabled Core, is read. -/
theorem microSteps_done (hp : ph ≠ .stop) (hen : s.ctrl.en = true) {k : Nat} (hk : k < Config.pollLimit)
    (code : BitVec 5) (data : Byte) :
    MicroSteps (s.microFrom o (.launch ph kept))
      ({ (s.launch ph).coreDone ph (code ++ 0#3) data with budget := budgetAfter k }.microFrom o (.read ph)) :=
  (((microSteps_unseen (launch_unseen s ph) hk).head microStep_launch).tail
    (microStep_coreDone (s := { s.launch ph with budget := budgetAfter k }) hp rfl hen code data)).tail
    (microStep_sample_done hp rfl)

/-- A launched stop, cleared before sample `k` by an enabled Core, has ended. -/
theorem microSteps_cleared (hen : s.ctrl.en = true) {k : Nat} (hk : k < Config.pollLimit) :
    MicroSteps (s.microFrom o (.launch .stop kept))
      (({ (s.launch .stop).coreStopped with budget := budgetAfter k }.stopCleared).microFrom o
        (.next (kept.getD .ok) 0#8)) :=
  (((microSteps_unseen (launch_unseen s .stop) hk).head microStep_launch).tail
    (microStep_coreStopped (s := { s.launch .stop with budget := budgetAfter k }) rfl hen)).tail
    (microStep_sample_cleared rfl)

/-! ### A stop phase, and a phase with what its status calls for (R117, R118, R148) -/

/-- A stop phase, with its own outcome or the one kept aside (R203). -/
theorem microSteps_stopPhase :
    MicroSteps (s.microFrom o (.launch .stop kept))
      ((stopPhase s).2.microFrom o (.next (kept.getD (stopPhase s).1) 0#8)) := by
  rcases stopPhase_cases s with ⟨hen, k, e, n, hk, h⟩ | ⟨e, n, h⟩
  · rw [h]
    exact microSteps_cleared hen hk
  · rw [h]
    exact microSteps_expired

/-- The big step's end of a phase whose STATUS has just been seen, from the state in which E_READ reads it. -/
def State.readEnded (s : State) (ph : Phase) : Ended :=
  settle ph (verdictOf ph) (.code s.status, s.emit (completedEvent ph s))

/-- From E_READ, what the command makes of the status: success, or the recovery (R148, R202). -/
theorem microSteps_read :
    MicroSteps (s.microFrom o (.read ph))
      ((s.readEnded ph).state.microFrom o (.next (s.readEnded ph).outcome (s.readEnded ph).rdata)) := by
  unfold State.readEnded
  cases hv : verdictOf ph s.status with
  | success bp =>
    simp only [settle, hv]
    exact .single (microStep_of_tick fun rest =>
      congrArg Host.Outcome.next (tickRead_success (s := (s.microFrom o (.read ph)).beginStep rest) hv))
  | failure r =>
    simp only [settle, hv]
    cases r with
    | leave =>
      exact .single (microStep_of_tick fun rest =>
        congrArg Host.Outcome.next (tickRead_leave (s := (s.microFrom o (.read ph)).beginStep rest) hv))
    | stop =>
      have hstop := microSteps_stopPhase (o := o) (s := s.emit (completedEvent ph s))
        (kept := some (.hardwareStatus s.status))
      exact hstop.head (microStep_of_tick fun rest =>
        congrArg Host.Outcome.next (tickRead_stop (s := (s.microFrom o (.read ph)).beginStep rest) hv))
    | release =>
      exact (ReflTransGen.single (microStep_release _)).head (microStep_of_tick fun rest =>
        congrArg Host.Outcome.next (tickRead_release (s := (s.microFrom o (.read ph)).beginStep rest) hv))

/-- From E_SETUP, a phase that is no stop ends as its big step does. -/
theorem microSteps_runPhase (hp : ph ≠ .stop) (hseq : seqPhase s.seq s.fields s.idx = some ph) :
    MicroSteps (s.microFrom o .setup)
      ((runPhase ph (verdictOf ph) s).state.microFrom o
        (.next (runPhase ph (verdictOf ph) s).outcome (runPhase ph (verdictOf ph) s).rdata)) := by
  refine .head (microStep_setup hseq) ?_
  rcases donePhase_cases hp s with ⟨hen, k, code, data, e, n, hk, h⟩ | ⟨e, n, h⟩
  · have hen' : (s.loadData ph).ctrl.en = true := by simpa using hen
    have hread := microSteps_read (o := o) (ph := ph) (s := s.completed ph k code data e n)
    rw [runPhase, h]
    exact (microSteps_done hp hen' hk code data).trans hread
  · rw [runPhase, h]
    exact microSteps_expired

/-- From E_SETUP, a stop step ends as its big step does. -/
theorem microSteps_runStop (hseq : seqPhase s.seq s.fields s.idx = some .stop) :
    MicroSteps (s.microFrom o .setup) ((runStop s).state.microFrom o (.next (runStop s).outcome (runStop s).rdata)) :=
  .head (microStep_setup hseq) microSteps_stopPhase

end Sys2Proof.Machine
end

section
/-!
PROOFS. The micro-steps run every command to the state of its big step: the steps of SEQ (R176) one after another, the
loop of R5 by induction on the bytes still to come, then each of the nine commands and the illegal word.
-/

namespace Sys2Proof.Machine

open Relation

variable {o s t : State} {f : Fields} {q : Seq} {i : Byte} {ph : Phase} {e : Ended} {k : State → Ended}

/-! ### What a step of a command keeps -/

/-- The command with the fields `f` is at step `q` of SEQ with IDX = `i`, and nothing more is presented. -/
structure Running (f : Fields) (q : Seq) (i : Byte) (s : State) : Prop where
  fields : s.fields = f
  seq : s.seq = q
  idx : s.idx = i
  inputs : s.inputs = []

theorem Running.setSeq (h : Running f q i s) (q' : Seq) : Running f q' i (s.setSeq q') :=
  ⟨h.fields, rfl, h.idx, h.inputs⟩

theorem Running.launched (h : Running f q i s) (ph : Phase) : Running f q i (s.launched ph) := by
  cases ph <;> exact ⟨h.fields, h.seq, h.idx, h.inputs⟩

theorem Running.after_stopPhase (h : Running f q i s) : Running f q i (stopPhase s).2 := by
  rcases stopPhase_cases s with ⟨-, k, e, n, -, hs⟩ | ⟨e, n, hs⟩ <;> rw [hs] <;>
    exact ⟨h.fields, h.seq, h.idx, h.inputs⟩

theorem Running.after_recover (h : Running f q i s) (r : Recovery) : Running f q i (recover r s) := by
  cases r with
  | leave => exact ⟨h.fields, h.seq, h.idx, h.inputs⟩
  | stop => exact h.after_stopPhase
  | release => exact ⟨h.fields, h.seq, h.idx, h.inputs⟩

theorem Running.after_runPhase (h : Running f q i s) (hp : ph ≠ .stop) (verdict : Byte → Verdict) :
    Running f q i (runPhase ph verdict s).state := by
  obtain ⟨hf, hq, hi, hin⟩ := h.launched ph
  rcases runPhase_cases hp verdict s with
    ⟨-, k, code, data, env, n, -, ⟨bp, -, hr⟩ | ⟨r, -, hr⟩⟩ | ⟨env, n, hr⟩ <;> rw [hr]
  · exact ⟨hf, hq, hi, hin⟩
  · exact Running.after_recover (s := (s.completed ph k code data env n).emit _) ⟨hf, hq, hi, hin⟩ r
  · exact ⟨hf, hq, hi, hin⟩

/-! ### One step of SEQ (R176) -/

/-- From E_SETUP at step `q`, the micro-steps come to E_NEXT as the big step `e` ends; a byte is received on `Ok` alone. -/
structure StepEnds (o : State) (f : Fields) (q : Seq) (i : Byte) (s : State) (e : Ended) : Prop where
  reach : MicroSteps (s.microFrom o .setup) (e.state.microFrom o (.next e.outcome e.rdata))
  running : Running f q i e.state
  rdata : e.outcome ≠ .ok → e.rdata = 0#8

theorem Running.seqPhase_eq (h : Running f q i s) : seqPhase s.seq s.fields s.idx = seqPhase q f i := by
  rw [h.seq, h.fields, h.idx]

theorem Running.seqNext_eq (h : Running f q i s) : seqNext s.seq s.fields s.idx = seqNext q f i := by
  rw [h.seq, h.fields, h.idx]

/-- A step with a phase that is no stop. -/
theorem Running.runPhase_ends (h : Running f q i s) (hseq : seqPhase q f i = some ph) (hp : ph ≠ .stop)
    {verdict : Byte → Verdict} (hv : verdictOf ph = verdict) : StepEnds o f q i s (runPhase ph verdict s) where
  reach := hv ▸ microSteps_runPhase hp (h.seqPhase_eq.trans hseq)
  running := h.after_runPhase hp verdict
  rdata := by
    rcases runPhase_cases hp verdict s with
      ⟨-, _, _, _, _, _, -, ⟨bp, -, hr⟩ | ⟨r, -, hr⟩⟩ | ⟨_, _, hr⟩ <;> simp [hr]

/-- A stop step. -/
theorem Running.stopBody_ends (h : Running f q i s) (hseq : seqPhase q f i = some .stop) :
    StepEnds o f q i s (stopBody s) where
  reach := microSteps_runStop (h.seqPhase_eq.trans hseq)
  running := h.after_stopPhase
  rdata := fun _ => rfl

theorem Running.startBody_ends (h : Running f q i s) (hseq : seqPhase q f i = some .start) :
    StepEnds o f q i s (startBody s) :=
  h.runPhase_ends hseq (by simp) rfl

theorem Running.sendAddressBody_ends {dev : Addr7} {rw : Dir} (h : Running f q i s)
    (hseq : seqPhase q f i = some (.addr (addrByte dev rw))) : StepEnds o f q i s (sendAddressBody dev rw s) :=
  h.runPhase_ends hseq (by simp) (by rw [verdictOf, addrByte_dir])

theorem Running.writeByteBody_ends {val : Byte} (h : Running f q i s) (hseq : seqPhase q f i = some (.tx val)) :
    StepEnds o f q i s (writeByteBody val s) :=
  h.runPhase_ends hseq (by simp) rfl

theorem Running.readByteAckBody_ends (h : Running f q i s) (hseq : seqPhase q f i = some (.rx true)) :
    StepEnds o f q i s (readByteAckBody s) :=
  h.runPhase_ends hseq (by simp) rfl

theorem Running.readByteNackBody_ends (h : Running f q i s) (hseq : seqPhase q f i = some (.rx false)) :
    StepEnds o f q i s (readByteNackBody s) :=
  h.runPhase_ends hseq (by simp) rfl

/-- The receive step R5. -/
theorem Running.receiveBody_ends (h : Running f .r5 i s) : StepEnds o f .r5 i s (receiveBody f.val s) := by
  unfold receiveBody
  rw [h.idx]
  cases hack : rxAcks i f.val with
  | true => exact h.readByteAckBody_ends (by rw [seqPhase, hack])
  | false => exact h.readByteNackBody_ends (by rw [seqPhase, hack])

/-! ### Steps in a row (R172) -/

/-- From E_SETUP, the micro-steps come to the response of the body `e`, with RDATA = `d`. -/
structure Responds (o : State) (f : Fields) (s : State) (e : Ended) (d : Byte) : Prop where
  reach : MicroSteps (s.microFrom o .setup) (e.state.microFrom o (.respond (.outcome e.outcome) d))
  fields : e.state.fields = f
  inputs : e.state.inputs = []

/-- A step that did not end `Ok` is the last. -/
theorem StepEnds.failed (h : StepEnds o f q i s e) (hne : e.outcome ≠ .ok) : Responds o f s e 0#8 where
  reach := h.reach.tail (h.rdata hne ▸ microStep_next_failed hne e.rdata)
  fields := h.running.fields
  inputs := h.running.inputs

/-- The last step. -/
theorem StepEnds.last (h : StepEnds o f q i s e) (hnext : seqNext q f i = none) : Responds o f s e e.rdata where
  reach := by
    by_cases hok : e.outcome = .ok
    · have hlast := microStep_next_last (o := o) (h.running.seqNext_eq.trans hnext) e.rdata
      rw [← hok] at hlast
      exact h.reach.tail hlast
    · exact h.reach.tail (microStep_next_failed hok e.rdata)
  fields := h.running.fields
  inputs := h.running.inputs

/-- A step that is followed by another on `Ok`. -/
theorem StepEnds.andThen {q' : Seq} (h : StepEnds o f q i s e) (hnext : seqNext q f i = some q') (hr : q ≠ .r5)
    (hk : ∀ u, Running f q' i (u.setSeq q') → Responds o f (u.setSeq q') (k u) 0#8) :
    Responds o f s (e.andThen k) 0#8 := by
  rcases Ended.andThen_cases e k with ⟨hok, hthen⟩ | ⟨hne, hthen⟩ <;> rw [hthen]
  · obtain ⟨hreach, hfields, hinputs⟩ := hk e.state (h.running.setSeq q')
    have hstep := microStep_next_step (o := o) (h.running.seqNext_eq.trans hnext) (h.running.seq ▸ hr) e.rdata
    rw [← hok] at hstep
    exact ⟨(h.reach.tail hstep).trans hreach, hfields, hinputs⟩
  · exact h.failed hne

/-! ### The two transactions (R170, R171) -/

/-- `WRITE_REGISTER`: the steps W0 to W4. -/
theorem Running.writeRegisterBody_responds {dev : Addr7} {reg val : Byte}
    (h : Running (fieldsOf (.writeRegister dev reg val)) .w0 i (s.setSeq .w0)) :
    Responds o (fieldsOf (.writeRegister dev reg val)) (s.setSeq .w0) (writeRegisterBody dev reg val s) 0#8 := by
  refine (h.startBody_ends rfl).andThen rfl (by simp) fun _ h1 => ?_
  refine (h1.sendAddressBody_ends rfl).andThen rfl (by simp) fun _ h2 => ?_
  refine (h2.writeByteBody_ends rfl).andThen rfl (by simp) fun _ h3 => ?_
  refine (h3.writeByteBody_ends rfl).andThen rfl (by simp) fun _ h4 => ?_
  exact (h4.stopBody_ends rfl).last rfl

/-- The loop of R5 ends when all bytes are stored. -/
theorem receiveLoop_done {len : Byte} (h : s.idx = len) (n : Nat) :
    receiveLoop len n s = { outcome := .ok, rdata := 0#8, state := s } := by
  cases n <;> simp [receiveLoop, h]

/-- One round of the loop of R5. -/
theorem receiveLoop_succ {len : Byte} (h : s.idx.toNat < len.toNat) (n : Nat) :
    receiveLoop len (n + 1) s =
      (receiveBody len s).andThen fun u => receiveLoop len n (u.storeRx (receiveBody len s).rdata) := by
  rw [receiveLoop, if_pos h]
  generalize receiveBody len s = e
  obtain ⟨out, d, u⟩ := e
  cases out <;> rfl

theorem Ended.andThen_assoc (e : Ended) (k k' : State → Ended) :
    (e.andThen k).andThen k' = e.andThen fun u => (k u).andThen k' := by
  obtain ⟨out, d, u⟩ := e
  cases out <;> rfl

/-- A receive step that ended `Ok`, its byte stored, and what follows it. -/
theorem StepEnds.stored {q' : Seq} {e' : Ended} {d : Byte} (h : StepEnds o f .r5 i s e) (hok : e.outcome = .ok)
    (hnext : seqNext .r5 f i = some q') (h' : Responds o f ((e.state.storeRx e.rdata).setSeq q') e' d) :
    Responds o f s e' d where
  reach := by
    have hstep := microStep_next_receive (o := o) (h.running.seqNext_eq.trans hnext) h.running.seq e.rdata
    rw [← hok] at hstep
    exact (h.reach.tail hstep).trans h'.reach
  fields := h'.fields
  inputs := h'.inputs

theorem Running.storeRx (h : Running f q i s) (d : Byte) : Running f q (i + 1#8) (s.storeRx d) :=
  ⟨h.fields, h.seq, congrArg (· + 1#8) h.idx, h.inputs⟩

theorem Running.setSeq_self (h : Running f q i s) : s.setSeq q = s := by
  rw [← h.seq]
  rfl

/-- The loop of R5 with `n` bytes to come at most, and the step after it. -/
theorem Running.receiveLoop_responds
    (hk : ∀ u, Running f .r6 f.val (u.setSeq .r6) → Responds o f (u.setSeq .r6) (k u) 0#8) (n : Nat)
    (h : Running f .r5 i s) (hi : i.toNat < f.val.toNat) (hn : f.val.toNat ≤ i.toNat + n) :
    Responds o f s ((receiveLoop f.val n s).andThen k) 0#8 := by
  induction n generalizing i s with
  | zero => omega
  | succ n ih =>
    have hend := h.receiveBody_ends (o := o)
    rw [receiveLoop_succ (h.idx ▸ hi), Ended.andThen_assoc]
    generalize receiveBody f.val s = e at hend ⊢
    rcases Ended.andThen_cases e fun u => (receiveLoop f.val n (u.storeRx e.rdata)).andThen k with
      ⟨hok, hthen⟩ | ⟨hne, hthen⟩ <;> rw [hthen]
    · have hstore := hend.running.storeRx e.rdata
      have hi1 : (i + 1#8).toNat = i.toNat + 1 := BitVec.toNat_add_of_lt (by have := f.val.isLt; simp; omega)
      by_cases hmore : i.toNat + 1 < f.val.toNat
      · refine hend.stored hok (q' := .r5) (by simp [seqNext, rxAcks, hmore]) ?_
        rw [hstore.setSeq_self]
        exact ih hstore (by omega) (by omega)
      · refine hend.stored hok (q' := .r6) (by simp [seqNext, rxAcks, hmore]) ?_
        have hlast : i + 1#8 = f.val := BitVec.eq_of_toNat_eq (by omega)
        rw [hlast] at hstore
        rw [receiveLoop_done hstore.idx]
        exact hk _ (hstore.setSeq .r6)
    · exact hend.failed hne

/-- `READ_REGISTER`: the steps R0 to R6. -/
theorem Running.readRegisterBody_responds {dev : Addr7} {reg len : Byte} (hlen : lenOk len = true)
    (h : Running (fieldsOf (.readRegister dev reg len)) .r0 0#8 (s.clearIdx.setSeq .r0)) :
    Responds o (fieldsOf (.readRegister dev reg len)) (s.clearIdx.setSeq .r0) (readRegisterBody dev reg len s) 0#8 := by
  have hpos : (0#8).toNat < len.toNat := by
    simp only [lenOk, bne_iff_ne, ne_eq, ← BitVec.toNat_inj] at hlen
    simp at hlen ⊢
    omega
  refine (h.startBody_ends rfl).andThen rfl (by simp) fun _ h1 => ?_
  refine (h1.sendAddressBody_ends rfl).andThen rfl (by simp) fun _ h2 => ?_
  refine (h2.writeByteBody_ends rfl).andThen rfl (by simp) fun _ h3 => ?_
  refine (h3.startBody_ends rfl).andThen rfl (by simp) fun _ h4 => ?_
  refine (h4.sendAddressBody_ends rfl).andThen rfl (by simp) fun _ h5 => ?_
  exact h5.receiveLoop_responds (fun _ h6 => (h6.stopBody_ends rfl).last rfl) len.toNat hpos (by simp [fieldsOf])

/-! ### From acceptance to response (R140) -/

/-- From E_DECODE in the state `s`, the micro-steps come to `t` but for the oracle's script, and no entry is left over. -/
structure MicroRun (o s t : State) : Prop where
  reach : MicroSteps (s.microFrom o .decode) { t with env := o.env, draws := o.draws }
  inputs : t.inputs = []

/-- The state in which the first step of an admitted command with a phase begins. -/
def State.begun (s : State) (i : Instr) : State :=
  match i with
  | .readRegister _ _ _ => s.clearIdx.setSeq .r0
  | i => s.setSeq (firstSeq i)

theorem tickDecode_admitted {i : Instr} (hd : decode s.cmdr = .ok i) (ha : admitted i s = true) (hi : i ≠ .init) :
    tickDecode s = .next ((s.begun i).setCtl .setup) := by
  simp only [tickDecode, hd, if_pos ha]
  cases i with
  | init => exact absurd rfl hi
  | _ => rfl

theorem tickDecode_init (hd : decode s.cmdr = .ok .init) (ha : admitted .init s = true) :
    tickDecode s = .next ((initBody (s.setSeq .prim)).state.setCtl (.respond (.outcome .ok) 0#8)) := by
  simp only [tickDecode, hd, if_pos ha]

theorem tickDecode_illegal {r : Reject} (hd : decode s.cmdr = .error r) :
    tickDecode s = .next (s.setCtl (.respond (.refused r.reason) 0#8)) := by
  simp only [tickDecode, hd]

/-- E_DECODE of an admitted command with a phase. -/
theorem microStep_decode {i : Instr} (hd : decode s.cmdr = .ok i) (ha : admitted i s = true) (hi : i ≠ .init) :
    MicroStep (s.microFrom o .decode) ((s.begun i).microFrom o .setup) :=
  microStep_of_tick fun rest => by
    refine (tickDecode_admitted (s := (s.microFrom o .decode).beginStep rest) hd ha hi).trans ?_
    cases i <;> rfl

/-- An admitted command whose body responds has run to the response: COUNT = IDX for a register read, 0 otherwise. -/
theorem Responds.microRun {i : Instr} {d : Byte} (h : Responds o (fieldsOf i) (s.begun i) e d)
    (hd : decode s.cmdr = .ok i) (ha : admitted i s = true) (hi : i ≠ .init) :
    MicroRun o s (e.state.respond (.outcome e.outcome) (if (fieldsOf i).op = 9#4 then e.state.idx else 0#8) d) where
  reach := by
    have hrespond := microStep_respond (o := o) (s := e.state) (.outcome e.outcome) d
    rw [responseCount, h.fields] at hrespond
    exact (h.reach.head (microStep_decode hd ha hi)).tail hrespond
  inputs := h.inputs

/-- What a well-formed command leaves when it is admitted. -/
def State.afterCommand (s : State) (i : Instr) : State :=
  match i with
  | .init => (initBody (s.setSeq .prim)).answerPrimitive
  | .start => (startBody (s.setSeq .prim)).answerPrimitive
  | .stop => (stopBody (s.setSeq .prim)).answerPrimitive
  | .sendAddress dev rw => (sendAddressBody dev rw (s.setSeq .prim)).answerPrimitive
  | .writeByte val => (writeByteBody val (s.setSeq .prim)).answerPrimitive
  | .readByteAck => (readByteAckBody (s.setSeq .prim)).answerPrimitive
  | .readByteNack => (readByteNackBody (s.setSeq .prim)).answerPrimitive
  | .writeRegister dev reg val => (writeRegisterBody dev reg val s).answerWrite
  | .readRegister dev reg len => (readRegisterBody dev reg len s).answerRead

/-- Every well-formed command is issued in the same way (R140, R149). -/
theorem exec_eq_issue {i : Instr} (hwf : i.wf = true) (s : State) :
    exec i s = issue i s fun s => s.afterCommand i := by
  cases i with
  | readRegister dev reg len => exact if_pos hwf
  | _ => rfl

/-- `INIT` runs in E_DECODE and answers `Ok` (R141). -/
theorem microRun_init (hd : decode s.cmdr = .ok .init) (hin : s.inputs = []) (ha : admitted .init s = true) :
    MicroRun o s (s.afterCommand .init) where
  reach := by
    have hinit : MicroStep (s.microFrom o .decode)
        ((initBody (s.setSeq .prim)).state.microFrom o (.respond (.outcome .ok) 0#8)) :=
      microStep_of_tick fun rest => tickDecode_init (s := (s.microFrom o .decode).beginStep rest) hd ha
    have hfields : (initBody (s.setSeq .prim)).state.fields = fieldsOf .init := split_of_decode hd
    have hrespond := microStep_respond (o := o) (s := (initBody (s.setSeq .prim)).state) (.outcome .ok) 0#8
    rw [responseCount, hfields] at hrespond
    exact (ReflTransGen.single hinit).tail hrespond
  inputs := hin

/-- Every legal word. -/
theorem microRun_of_exec {i : Instr} (hd : decode s.cmdr = .ok i) (hin : s.inputs = []) (h : exec i s = .next t) :
    MicroRun o s t := by
  rw [exec_eq_issue (wf_of_decode hd)] at h
  obtain ⟨ha, rfl⟩ := issue_next h
  have hrun : ∀ q, Running (fieldsOf i) q s.idx (s.setSeq q) := fun _ => ⟨split_of_decode hd, rfl, rfl, hin⟩
  cases i with
  | init => exact microRun_init hd hin ha
  | start => exact (((hrun .prim).startBody_ends rfl).last rfl).microRun hd ha (by simp)
  | stop => exact (((hrun .prim).stopBody_ends rfl).last rfl).microRun hd ha (by simp)
  | sendAddress dev rw =>
    have hseq : seqPhase .prim (fieldsOf (.sendAddress dev rw)) s.idx = some (.addr (addrByte dev rw)) := by
      simp [seqPhase, primPhase, fieldsOf, opOf]
    exact (((hrun .prim).sendAddressBody_ends hseq).last rfl).microRun hd ha (by simp)
  | writeByte val => exact (((hrun .prim).writeByteBody_ends rfl).last rfl).microRun hd ha (by simp)
  | readByteAck => exact (((hrun .prim).readByteAckBody_ends rfl).last rfl).microRun hd ha (by simp)
  | readByteNack => exact (((hrun .prim).readByteNackBody_ends rfl).last rfl).microRun hd ha (by simp)
  | writeRegister dev reg val => exact (hrun .w0).writeRegisterBody_responds.microRun hd ha (by simp)
  | readRegister dev reg len =>
    have hrun0 : Running (fieldsOf (.readRegister dev reg len)) .r0 0#8 (s.clearIdx.setSeq .r0) :=
      ⟨split_of_decode hd, rfl, rfl, hin⟩
    exact (hrun0.readRegisterBody_responds (wf_of_decode hd)).microRun hd ha (by simp)

/-- Every word, the illegal one answered `Refused` (R88, R89). -/
theorem microRun_of_runWord {w : Word} (hin : s.inputs = []) (h : runWord w s = .next t) :
    MicroRun o (s.acceptWord w) t := by
  unfold runWord at h
  split at h
  · rename_i i hd
    exact microRun_of_exec (s := s.acceptWord w) hd hin h
  · rename_i r hd
    obtain rfl : (s.acceptWord w).refuseWord r = t := by injection h
    refine ⟨.head ?_ (.single (microStep_respond (s := s.acceptWord w) (.refused r.reason) 0#8)), hin⟩
    exact microStep_of_tick fun rest =>
      tickDecode_illegal (s := ((s.acceptWord w).microFrom o .decode).beginStep rest) hd

/-- Settles O40: acceptance, then the micro-steps of the command, each with an idle entry or with the Core's completion
placed just before the sample that is to see it. -/
theorem microStepsRunEveryCommand : Obligations.MicroStepsRunEveryCommand := by
  unfold Obligations.MicroStepsRunEveryCommand
  intro s t w hbusy _ h
  have hword : runWord w (s.beginStep []) = .next t := by
    rw [← h]
    exact (if_neg (by simp [hbusy])).symm
  obtain ⟨hreach, hinputs⟩ := microRun_of_runWord (o := s) rfl hword
  obtain ⟨ins, hins, hrun⟩ := hreach.run
  refine ⟨ins, hins, ?_⟩
  have haccept : core.step { s with inputs := .accept w :: ins } =
      .next { ((s.beginStep []).acceptWord w).microFrom s .decode with inputs := ins } :=
    if_neg (by simp [hbusy])
  specialize hrun []
  rw [List.append_nil] at hrun
  simp only [Host.Core.run]
  rw [haccept]
  refine hrun.trans ?_
  rw [← hinputs]

end Sys2Proof.Machine
end

section
/-!
PROOFS. The bodies of all commands, followed once: what holds of every phase and passes from a step to the next holds of
the whole command. It is said of two runs side by side, one run being two equal ones; the wrapping of a body by order
check and response is said once for the nine commands.
-/

namespace Sys2Proof.Machine

variable {R : State → State → Prop} {E : Ended → Ended → Prop} {s s' t : State} {e e' : Ended} {i : Instr}

/-! ### A rule for bodies -/

/-- `R` of the states before a step of a command gives `E` of its ends, and `E` of the ends gives `R` back. -/
structure StepRule (R : State → State → Prop) (E : Ended → Ended → Prop) : Prop where
  outcome : ∀ {e e'}, E e e' → e.outcome = e'.outcome
  state : ∀ {e e'}, E e e' → R e.state e'.state
  setSeq : ∀ {s s'} (q : Seq), R s s' → R (s.setSeq q) (s'.setSeq q)
  phase : ∀ {s s'} {ph : Phase} (verdict : Byte → Verdict), ph ≠ .stop → R s s' →
    E (runPhase ph verdict s) (runPhase ph verdict s')
  stop : ∀ {s s'}, R s s' → E (runStop s) (runStop s')

/-- What the loop of R5 asks in addition (R171). -/
structure ReceiveRule (R : State → State → Prop) (E : Ended → Ended → Prop) : Prop where
  idx : ∀ {s s'}, R s s' → s.idx = s'.idx
  rdata : ∀ {e e'}, E e e' → e.rdata = e'.rdata
  clearIdx : ∀ {s s'}, R s s' → R s.clearIdx s'.clearIdx
  storeRx : ∀ {s s'} (d : Byte), R s s' → R (s.storeRx d) (s'.storeRx d)
  done : ∀ {s s'}, R s s' → E { outcome := .ok, rdata := 0#8, state := s } { outcome := .ok, rdata := 0#8, state := s' }

/-- The short circuit of R172. -/
theorem StepRule.andThen (h : StepRule R E) {k k' : State → Ended} (he : E e e')
    (hk : ∀ u u', R u u' → E (k u) (k' u')) : E (e.andThen k) (e'.andThen k') := by
  have ho := h.outcome he
  rcases Ended.andThen_cases e k with ⟨hok, hthen⟩ | ⟨hne, hthen⟩ <;>
    rcases Ended.andThen_cases e' k' with ⟨hok', hthen'⟩ | ⟨hne', hthen'⟩ <;> rw [hthen, hthen']
  · exact hk _ _ (h.state he)
  · exact absurd (ho ▸ hok) hne'
  · exact absurd (ho ▸ hok') hne
  · exact he

theorem StepRule.startBody (h : StepRule R E) (hs : R s s') : E (startBody s) (startBody s') :=
  h.phase _ (by simp) hs

theorem StepRule.sendAddressBody (h : StepRule R E) (dev : Addr7) (rw : Dir) (hs : R s s') :
    E (sendAddressBody dev rw s) (sendAddressBody dev rw s') :=
  h.phase _ (by simp) hs

theorem StepRule.writeByteBody (h : StepRule R E) (val : Byte) (hs : R s s') :
    E (writeByteBody val s) (writeByteBody val s') :=
  h.phase _ (by simp) hs

theorem receiveLoop_full {len : Byte} (h : ¬s.idx.toNat < len.toNat) (n : Nat) :
    receiveLoop len n s = { outcome := .ok, rdata := 0#8, state := s } := by
  cases n <;> simp [receiveLoop, h]

theorem StepRule.receiveBody (h : StepRule R E) (hr : ReceiveRule R E) (len : Byte) (hs : R s s') :
    E (receiveBody len s) (receiveBody len s') := by
  unfold Machine.receiveBody
  rw [hr.idx hs]
  split
  · exact h.phase _ (by simp) hs
  · exact h.phase _ (by simp) hs

theorem StepRule.receiveLoop (h : StepRule R E) (hr : ReceiveRule R E) (len : Byte) (n : Nat) (hs : R s s') :
    E (receiveLoop len n s) (receiveLoop len n s') := by
  induction n generalizing s s' with
  | zero => exact hr.done hs
  | succ n ih =>
    have hbody := h.receiveBody hr len hs
    by_cases hlt : s.idx.toNat < len.toNat
    · rw [receiveLoop_succ hlt, receiveLoop_succ (hr.idx hs ▸ hlt), hr.rdata hbody]
      exact h.andThen hbody fun _ _ hu => ih (hr.storeRx _ hu)
    · rw [receiveLoop_full hlt, receiveLoop_full (hr.idx hs ▸ hlt)]
      exact hr.done hs

theorem StepRule.writeRegisterBody (h : StepRule R E) (dev : Addr7) (reg val : Byte) (hs : R s s') :
    E (writeRegisterBody dev reg val s) (writeRegisterBody dev reg val s') := by
  refine h.andThen (h.startBody (h.setSeq .w0 hs)) fun _ _ h1 => ?_
  refine h.andThen (h.sendAddressBody dev .write (h.setSeq .w1 h1)) fun _ _ h2 => ?_
  refine h.andThen (h.writeByteBody reg (h.setSeq .w2 h2)) fun _ _ h3 => ?_
  exact h.andThen (h.writeByteBody val (h.setSeq .w3 h3)) fun _ _ h4 => h.stop (h.setSeq .w4 h4)

theorem StepRule.readRegisterBody (h : StepRule R E) (hr : ReceiveRule R E) (dev : Addr7) (reg len : Byte)
    (hs : R s s') : E (readRegisterBody dev reg len s) (readRegisterBody dev reg len s') := by
  refine h.andThen (h.startBody (h.setSeq .r0 (hr.clearIdx hs))) fun _ _ h1 => ?_
  refine h.andThen (h.sendAddressBody dev .write (h.setSeq .r1 h1)) fun _ _ h2 => ?_
  refine h.andThen (h.writeByteBody reg (h.setSeq .r2 h2)) fun _ _ h3 => ?_
  refine h.andThen (h.startBody (h.setSeq .r3 h3)) fun _ _ h4 => ?_
  refine h.andThen (h.sendAddressBody dev .read (h.setSeq .r4 h4)) fun _ _ h5 => ?_
  exact h.andThen (h.receiveLoop hr len len.toNat (h.setSeq .r5 h5)) fun _ _ h6 => h.stop (h.setSeq .r6 h6)

/-! ### Every command -/

/-- The body of a command, from its first step of SEQ on (R141 to R147, R170, R171). -/
def commandBody (i : Instr) (s : State) : Ended :=
  match i with
  | .init => initBody (s.setSeq .prim)
  | .start => startBody (s.setSeq .prim)
  | .stop => stopBody (s.setSeq .prim)
  | .sendAddress dev rw => sendAddressBody dev rw (s.setSeq .prim)
  | .writeByte val => writeByteBody val (s.setSeq .prim)
  | .readByteAck => readByteAckBody (s.setSeq .prim)
  | .readByteNack => readByteNackBody (s.setSeq .prim)
  | .writeRegister dev reg val => writeRegisterBody dev reg val s
  | .readRegister dev reg len => readRegisterBody dev reg len s

/-- Every command with a phase. -/
theorem StepRule.commandBody (h : StepRule R E) (hr : i.mnemonic = "READ_REGISTER" → ReceiveRule R E) (hi : i ≠ .init)
    (hs : R s s') : E (commandBody i s) (commandBody i s') := by
  have hprim := h.setSeq .prim hs
  cases i with
  | init => exact absurd rfl hi
  | start => exact h.startBody hprim
  | stop => exact h.stop hprim
  | sendAddress dev rw => exact h.sendAddressBody dev rw hprim
  | writeByte val => exact h.writeByteBody val hprim
  | readByteAck => exact h.phase _ (by simp) hprim
  | readByteNack => exact h.phase _ (by simp) hprim
  | writeRegister dev reg val => exact h.writeRegisterBody dev reg val hs
  | readRegister dev reg len => exact h.readRegisterBody (hr rfl) dev reg len hs

/-- COUNT of the response to a command whose body has ended (R92). -/
def Ended.count (e : Ended) (i : Instr) : Byte := if i.mnemonic = "READ_REGISTER" then e.state.idx else 0#8

/-- RDATA of the response to a command whose body has ended (R92): 0 after a transaction. -/
def Ended.shownByte (e : Ended) (i : Instr) : Byte := if firstSeq i = .prim then e.rdata else 0#8

/-- The response to a command whose body has ended (R140). -/
def Ended.answer (e : Ended) (i : Instr) : State := e.state.respond (.outcome e.outcome) (e.count i) (e.shownByte i)

theorem afterCommand_eq_answer (i : Instr) (s : State) : s.afterCommand i = (commandBody i s).answer i := by
  cases i <;> rfl

/-- A command that answers a next state was admitted and has run its body, or was a register read of length 0. -/
theorem exec_next_cases (h : exec i s = .next t) :
    (i.wf = true ∧ admitted i s = true ∧ t = (commandBody i s).answer i) ∨
      (i.wf = false ∧ t = s.refuseWord .zeroLength) := by
  cases hwf : i.wf with
  | true =>
    rw [exec_eq_issue hwf] at h
    obtain ⟨ha, rfl⟩ := issue_next h
    exact .inl ⟨rfl, ha, afterCommand_eq_answer i s⟩
  | false =>
    cases i with
    | readRegister dev reg len =>
      have hexec : exec (.readRegister dev reg len) s = .next (s.refuseWord .zeroLength) :=
        if_neg (Bool.not_eq_true _ ▸ hwf)
      rw [hexec] at h
      injection h with h
      exact .inr ⟨rfl, h.symm⟩
    | _ => cases hwf

/-! ### One run: what every operation of a phase keeps -/

/-- The diagonal of a predicate. -/
def Both {α : Type} (P : α → Prop) (a b : α) : Prop := a = b ∧ P a

/-- `P` is kept by everything a phase and its recovery do (R116 to R119, R148); the Core completes a phase only when it
is enabled (R79). -/
structure KeptByPhases (P : State → Prop) : Prop where
  setSeq : ∀ {s} (q : Seq), P s → P (s.setSeq q)
  setBp : ∀ {s} (bp : BusPhase), s.ctrl.en = true → P s → P (s.setBp bp)
  release : ∀ {s}, s.ctrl.en = true → P s → P s.release
  completed : ∀ {s} (ph : Phase) {k : Nat} (code : BitVec 5) (data : Byte) (e : List Config.Answer) (n : Nat),
    s.ctrl.en = true → k < Config.pollLimit → P s →
    P ((s.completed ph k code data e n).emit (completedEvent ph (s.completed ph k code data e n)))
  cleared : ∀ {s} {k : Nat} (e : List Config.Answer) (n : Nat), s.ctrl.en = true → k < Config.pollLimit → P s →
    P ({ ({ s.launch .stop with env := e, draws := n }).coreStopped with budget := budgetAfter k }.stopCleared)
  expired : ∀ {s} (ph : Phase) (e : List Config.Answer) (n : Nat), P s →
    P (({ s.launched ph with env := e, draws := n, budget := 0#8 }).expire ph)

/-- `P` is kept by what only a register read does: clearing IDX and storing a byte (R171). -/
structure KeptByReceive (P : State → Prop) : Prop where
  clearIdx : ∀ {s}, P s → P s.clearIdx
  storeRx : ∀ {s} (d : Byte), P s → P (s.storeRx d)

variable {P : State → Prop}

@[simp] theorem State.completed_en (s : State) (ph : Phase) (k : Nat) (code : BitVec 5) (data : Byte)
    (e : List Config.Answer) (n : Nat) : (s.completed ph k code data e n).ctrl.en = s.ctrl.en := by
  cases ph <;> rfl

theorem KeptByPhases.stopPhase (h : KeptByPhases P) (hs : P s) : P (stopPhase s).2 := by
  rcases stopPhase_cases s with ⟨hen, k, e, n, hk, hstop⟩ | ⟨e, n, hstop⟩ <;> rw [hstop]
  · exact h.cleared e n hen hk hs
  · exact h.expired .stop e n hs

theorem KeptByPhases.recover (h : KeptByPhases P) (r : Recovery) (hen : s.ctrl.en = true) (hs : P s) :
    P (recover r s) := by
  cases r with
  | leave => exact h.setBp .unknown hen hs
  | stop => exact h.stopPhase hs
  | release => exact h.release hen hs

theorem KeptByPhases.runPhase (h : KeptByPhases P) {ph : Phase} (verdict : Byte → Verdict) (hp : ph ≠ .stop)
    (hs : P s) : P (runPhase ph verdict s).state := by
  rcases runPhase_cases hp verdict s with
    ⟨hen, k, code, data, e, n, hk, ⟨bp, -, hr⟩ | ⟨r, -, hr⟩⟩ | ⟨e, n, hr⟩ <;> rw [hr]
  · exact h.setBp bp (by simpa using hen) (h.completed ph code data e n hen hk hs)
  · exact h.recover r (by simpa using hen) (h.completed ph code data e n hen hk hs)
  · exact h.expired ph e n hs

theorem KeptByPhases.stepRule (h : KeptByPhases P) : StepRule (Both P) (Both fun e => P e.state) where
  outcome := fun he => congrArg Ended.outcome he.1
  state := fun he => ⟨congrArg Ended.state he.1, he.2⟩
  setSeq := by rintro s _ q ⟨rfl, hs⟩; exact ⟨rfl, h.setSeq q hs⟩
  phase := by rintro s _ ph verdict hp ⟨rfl, hs⟩; exact ⟨rfl, h.runPhase verdict hp hs⟩
  stop := by rintro s _ ⟨rfl, hs⟩; exact ⟨rfl, h.stopPhase hs⟩

theorem KeptByReceive.receiveRule (h : KeptByReceive P) : ReceiveRule (Both P) (Both fun e => P e.state) where
  idx := fun hs => congrArg State.idx hs.1
  rdata := fun he => congrArg Ended.rdata he.1
  clearIdx := by rintro s _ ⟨rfl, hs⟩; exact ⟨rfl, h.clearIdx hs⟩
  storeRx := by rintro s _ d ⟨rfl, hs⟩; exact ⟨rfl, h.storeRx d hs⟩
  done := by rintro s _ ⟨rfl, hs⟩; exact ⟨rfl, hs⟩

/-- A command that answers leaves a state that meets `P`, with a response written. -/
theorem KeptByPhases.exec (h : KeptByPhases P) (hr : i.mnemonic = "READ_REGISTER" → KeptByReceive P)
    (hi : i = .init → ∀ s, P s → P (initBody s).state) (hs : P s) (he : exec i s = .next t) :
    ∃ u r count rdata, P u ∧ t = u.respond r count rdata := by
  rcases exec_next_cases he with ⟨-, -, rfl⟩ | ⟨-, rfl⟩
  · refine ⟨_, _, _, _, ?_, rfl⟩
    by_cases hinit : i = .init
    · subst hinit
      exact hi rfl _ (h.setSeq .prim hs)
    · exact (h.stepRule.commandBody (fun hm => (hr hm).receiveRule) hinit ⟨rfl, hs⟩).2
  · exact ⟨s, _, _, _, hs, rfl⟩

end Sys2Proof.Machine
end

section
/-!
PROOFS. What the Core's completion, one step of the machine and the micro-step E_DECODE can do, said once (R44, R114, R120,
R140, R220).
-/

namespace Sys2Proof.Machine

variable {s t u : State} {inp : Input}

/-! ### The Core's completion (R114) -/

theorem coreComplete_none (h : s.pend = none) (code : BitVec 5) (data : Byte) : s.coreComplete code data = s := by
  simp [State.coreComplete, h]

theorem coreComplete_disabled (h : s.ctrl.en = false) (code : BitVec 5) (data : Byte) :
    s.coreComplete code data = s := by
  unfold State.coreComplete
  split <;> simp [h]

theorem coreComplete_stop (h : s.pend = some .stop) (hen : s.ctrl.en = true) (code : BitVec 5) (data : Byte) :
    s.coreComplete code data = s.coreStopped := by
  simp [State.coreComplete, h, hen]

theorem coreComplete_phase {ph : Phase} (h : s.pend = some ph) (hp : ph ≠ .stop) (hen : s.ctrl.en = true)
    (code : BitVec 5) (data : Byte) : s.coreComplete code data = s.coreDone ph (code ++ 0#3) data := by
  cases ph <;> simp_all [State.coreComplete]

/-- The Core ends its pending phase when it is enabled, and does nothing otherwise. -/
theorem coreComplete_cases (s : State) (code : BitVec 5) (data : Byte) :
    s.coreComplete code data = s ∨ (s.ctrl.en = true ∧ s.coreComplete code data = s.coreStopped) ∨
      ∃ ph, s.ctrl.en = true ∧ s.coreComplete code data = s.coreDone ph (code ++ 0#3) data := by
  cases hpend : s.pend with
  | none => exact .inl (coreComplete_none hpend code data)
  | some ph =>
    cases hen : s.ctrl.en with
    | false => exact .inl (coreComplete_disabled hen code data)
    | true =>
      by_cases hp : ph = .stop
      · subst hp
        exact .inr (.inl ⟨rfl, coreComplete_stop hpend hen code data⟩)
      · exact .inr (.inr ⟨ph, rfl, coreComplete_phase hpend hp hen code data⟩)

/-! ### One step -/

theorem step_nil (h : s.inputs = []) : step s = deliver .idle (s.beginStep []) := by
  simp [step, stepInputs, h]

theorem step_cons {rest : List Input} (h : s.inputs = inp :: rest) : step s = deliver inp (s.beginStep rest) := by
  simp [step, stepInputs, h]

/-- What an entry of the inputs does to the state at the beginning of the step. -/
inductive Delivered (u t : State) : Input → Prop
  | reset (h : t = u.resetPulse) : Delivered u t .reset
  | coreComplete (code : BitVec 5) (data : Byte) (h : t = u.coreComplete code data) :
    Delivered u t (.coreComplete code data)
  | ticked {inp : Input} (hbusy : u.busy = true) (h : tick u = .next t) : Delivered u t inp
  | waited (hbusy : u.busy = false) (h : t = u) : Delivered u t .idle
  | ran (w : Word) (hbusy : u.busy = false) (h : runWord w u = .next t) : Delivered u t (.command w)
  | accepted (w : Word) (hbusy : u.busy = false) (h : t = (u.acceptWord w).setCtl .decode) : Delivered u t (.accept w)

theorem deliver_cases (h : deliver inp u = .next t) : Delivered u t inp := by
  cases hb : u.busy with
  | true =>
    cases inp with
    | reset => exact .reset (by injection h with h; exact h.symm)
    | coreComplete code data => exact .coreComplete code data (by injection h with h; exact h.symm)
    | idle | command | accept => exact .ticked hb ((if_pos hb).symm.trans h)
  | false =>
    have hb' : ¬u.busy = true := by simp [hb]
    cases inp with
    | reset => exact .reset (by injection h with h; exact h.symm)
    | coreComplete code data => exact .coreComplete code data (by injection h with h; exact h.symm)
    | idle => exact .waited hb (by injection (if_neg hb').symm.trans h with h; exact h.symm)
    | command w => exact .ran w hb ((if_neg hb').symm.trans h)
    | accept w => exact .accepted w hb (by injection (if_neg hb').symm.trans h with h; exact h.symm)

/-- A step delivers one entry, which is a reset only if the inputs begin with one. -/
theorem step_cases (h : step s = .next t) :
    ∃ rest inp, Delivered (s.beginStep rest) t inp ∧ (inp = .reset → s.inputs.head? = some .reset) := by
  cases hin : s.inputs with
  | nil => exact ⟨[], .idle, deliver_cases (step_nil hin ▸ h), nofun⟩
  | cons inp rest => exact ⟨rest, inp, deliver_cases (step_cons hin ▸ h), fun hr => by simp [hr]⟩

/-- An accepted word runs its command, or is answered `Refused` (R88, R140). -/
theorem runWord_cases {w : Word} (h : runWord w u = .next t) :
    (∃ i, exec i (u.acceptWord w) = .next t) ∨ ∃ r, t = (u.acceptWord w).refuseWord r := by
  unfold runWord at h
  split at h
  · exact .inl ⟨_, h⟩
  · injection h with h
    exact .inr ⟨_, h.symm⟩

/-- E_DECODE comes to the response to an illegal word or to `INIT`, or to the first step of another command. -/
theorem tickDecode_cases (h : tickDecode s = .next t) :
    (∃ r, t = s.setCtl (.respond r 0#8)) ∨
      (∃ r, t = (initBody (s.setSeq .prim)).state.setCtl (.respond r 0#8)) ∨ ∃ i, t = (s.begun i).setCtl .setup := by
  cases hd : decode s.cmdr with
  | error r =>
    rw [tickDecode_illegal hd] at h
    injection h with h
    exact .inl ⟨_, h.symm⟩
  | ok i =>
    by_cases ha : admitted i s = true
    · by_cases hi : i = .init
      · subst hi
        rw [tickDecode_init hd ha] at h
        injection h with h
        exact .inr (.inl ⟨_, h.symm⟩)
      · rw [tickDecode_admitted hd ha hi] at h
        injection h with h
        exact .inr (.inr ⟨i, h.symm⟩)
    · simp [tickDecode, hd, ha] at h

end Sys2Proof.Machine
end

section
/-!
PROOFS. The invariant holds after every reset and is kept by every step: its part about the registers by each operation
of the Core and the Engine, its part about BUSY, SEQ and the control state by each control state of R120.
-/

namespace Sys2Proof.Machine

open Safety

variable {s t : State} {ph : Phase} {kept : Option BusOutcome} {c : Control}

/-! ### The part about the registers -/

/-- The part of the invariant that speaks of CTRL, STATUS, BUDGET, PEND, BP and the lines. -/
structure RegInv (s : State) : Prop where
  statusLow : s.status.extractLsb' 0 3 = 0#3
  budgetLe : s.budget.toNat ≤ Config.pollLimit
  pendRequest : ∀ ph, s.pend = some ph →
    s.ctrl.done = false ∧ s.ctrl.sta = ph.sta ∧ s.ctrl.sto = ph.sto ∧ s.ctrl.aen = ph.aen
  disabled : s.ctrl.en = false → s.ctrl.done = false ∧ s.lines = .released ∧ (s.bp = .idle ∨ s.bp = .unknown)

theorem regInv_of_inv (h : Inv s) : RegInv s where
  statusLow := h.statusLow
  budgetLe := h.budgetLe
  pendRequest := h.pendRequest
  disabled := fun hen =>
    have ⟨hdone, hlines, hbp, _⟩ := h.disabled hen
    ⟨hdone, hlines, hbp⟩

theorem statusLow_code (code : BitVec 5) : (code ++ 0#3).extractLsb' 0 3 = 0#3 := by
  revert code; decide

theorem budgetAfter_le (k : Nat) : (budgetAfter k).toNat ≤ Config.pollLimit := by
  have hl : Config.pollLimit = 250 := rfl
  simp only [budgetAfter, hl, BitVec.toNat_ofNat]
  omega

theorem RegInv.setBudget (h : RegInv s) {b : Byte} (hb : b.toNat ≤ Config.pollLimit) : RegInv { s with budget := b } :=
  { h with budgetLe := hb }

theorem RegInv.setBp (h : RegInv s) {bp : BusPhase} (hbp : s.ctrl.en = true ∨ bp = .idle ∨ bp = .unknown) :
    RegInv (s.setBp bp) where
  statusLow := h.statusLow
  budgetLe := h.budgetLe
  pendRequest := h.pendRequest
  disabled := fun hen =>
    have ⟨hdone, hlines, _⟩ := h.disabled hen
    ⟨hdone, hlines, hbp.resolve_left (by simp_all)⟩

theorem RegInv.launch (h : RegInv s) (ph : Phase) : RegInv (s.launch ph) where
  statusLow := h.statusLow
  budgetLe := h.budgetLe
  pendRequest := by rintro _ ⟨⟩; exact ⟨rfl, rfl, rfl, rfl⟩
  disabled := fun hen =>
    have ⟨_, hlines, hbp⟩ := h.disabled hen
    ⟨rfl, (if_neg (by simpa using hen)).trans hlines, hbp⟩

theorem RegInv.loadData (h : RegInv s) (ph : Phase) : RegInv (s.loadData ph) := by
  cases ph <;> exact { h with }

/-- Only an enabled Core ends a phase (R79). -/
theorem RegInv.coreDone (h : RegInv s) (hen : s.ctrl.en = true) (ph : Phase) (code : BitVec 5) (data : Byte) :
    RegInv (s.coreDone ph (code ++ 0#3) data) where
  statusLow := statusLow_code code
  budgetLe := h.budgetLe
  pendRequest := nofun
  disabled := fun hdis => absurd (hen.symm.trans hdis) (by simp)

theorem RegInv.coreStopped (h : RegInv s) : RegInv s.coreStopped where
  statusLow := h.statusLow
  budgetLe := h.budgetLe
  pendRequest := nofun
  disabled := fun hen =>
    have ⟨hdone, _, hbp⟩ := h.disabled hen
    ⟨hdone, rfl, hbp⟩

theorem RegInv.coreComplete (h : RegInv s) (code : BitVec 5) (data : Byte) : RegInv (s.coreComplete code data) := by
  rcases coreComplete_cases s code data with hc | ⟨-, hc⟩ | ⟨ph, hen, hc⟩ <;> rw [hc]
  · exact h
  · exact h.coreStopped
  · exact h.coreDone hen ph code data

theorem RegInv.expire (h : RegInv s) (ph : Phase) : RegInv (s.expire ph) :=
  RegInv.setBp (s := s.emit _) { h with } (.inr (.inr rfl))

theorem RegInv.stopCleared (h : RegInv s) : RegInv s.stopCleared :=
  RegInv.setBp (s := s.emit _) { h with } (.inr (.inl rfl))

theorem RegInv.release (h : RegInv s) : RegInv s.release where
  statusLow := h.statusLow
  budgetLe := h.budgetLe
  pendRequest := nofun
  disabled := nofun

theorem RegInv.initBody (h : RegInv s) : RegInv (initBody s).state where
  statusLow := h.statusLow
  budgetLe := h.budgetLe
  pendRequest := nofun
  disabled := nofun

theorem regInv_keptByPhases : KeptByPhases RegInv where
  setSeq := fun _ h => { h with }
  setBp := fun _ hen h => h.setBp (.inl hen)
  release := fun _ h => h.release
  completed := fun {s} ph k code data e n hen _ h =>
    have hlaunch : RegInv { s.launched ph with env := e, draws := n } := { (h.loadData ph).launch ph with }
    have hdone := hlaunch.coreDone (by simpa [State.launched, State.launch] using hen) ph code data
    { hdone.setBudget (budgetAfter_le k) with }
  cleared := fun {s k} e n _ _ h =>
    have hlaunch : RegInv { s.launch .stop with env := e, draws := n } := { h.launch .stop with }
    (hlaunch.coreStopped.setBudget (budgetAfter_le k)).stopCleared
  expired := fun {s} ph e n h =>
    have hlaunch : RegInv { s.launched ph with env := e, draws := n } := { (h.loadData ph).launch ph with }
    (hlaunch.setBudget (Nat.zero_le _)).expire ph

theorem regInv_keptByReceive : KeptByReceive RegInv where
  clearIdx := fun h => { h with }
  storeRx := fun _ h => { h with }

/-! ### The part about the control state -/

/-- A control state of a busy Engine that is neither between samples nor at E_READ. -/
def Control.Settled : Control → Prop
  | .idle | .sample _ _ | .wait _ _ | .read _ => False
  | .decode | .setup | .launch _ _ | .release _ | .next _ _ | .respond _ _ => True

/-- A response written (R140). -/
theorem RegInv.respond (h : RegInv s) (r : Response) (count rdata : Byte) : Inv (s.respond r count rdata) where
  statusLow := h.statusLow
  budgetLe := h.budgetLe
  budgetPos := fun _ _ hctl => hctl.elim nofun nofun
  quietSeq := fun _ => rfl
  quietCtl := ⟨fun _ => rfl, fun _ => rfl⟩
  pendRequest := h.pendRequest
  disabled := fun hen =>
    have ⟨hdone, hlines, hbp⟩ := h.disabled hen
    ⟨hdone, hlines, hbp, nofun⟩

/-- A busy Engine in any control state but E_IDLE: with budget left between samples, and enabled at E_READ. -/
theorem RegInv.setCtl (h : RegInv s) (hbusy : s.busy = true) (hc : c ≠ .idle)
    (hpos : ∀ ph kept, c = .sample ph kept ∨ c = .wait ph kept → 0 < s.budget.toNat)
    (hread : ∀ ph, c = .read ph → s.ctrl.en = true) : Inv (s.setCtl c) where
  statusLow := h.statusLow
  budgetLe := h.budgetLe
  budgetPos := hpos
  quietSeq := fun hb => absurd (hbusy.symm.trans hb) (by simp)
  quietCtl := ⟨fun hb => absurd (hbusy.symm.trans hb) (by simp), fun hidle => absurd hidle hc⟩
  pendRequest := h.pendRequest
  disabled := fun hen =>
    have ⟨hdone, hlines, hbp⟩ := h.disabled hen
    ⟨hdone, hlines, hbp, fun ph hr => absurd ((hread ph hr).symm.trans hen) (by simp)⟩

theorem RegInv.setCtl_settled (h : RegInv s) (hbusy : s.busy = true) (hc : c.Settled) : Inv (s.setCtl c) :=
  h.setCtl hbusy (by rintro rfl; exact hc) (by rintro ph kept (rfl | rfl) <;> exact hc.elim)
    (by rintro ph rfl; exact hc.elim)

/-! ### The micro-steps of the Engine (R120) -/

theorem RegInv.begun (h : RegInv s) (i : Instr) : RegInv (s.begun i) := by
  cases i <;> exact { h with }

theorem begun_busy (s : State) (i : Instr) : (s.begun i).busy = s.busy := by
  cases i <;> rfl

theorem tickDecode_inv (h : Inv s) (hbusy : s.busy = true) (ht : tickDecode s = .next t) : Inv t := by
  have hreg := regInv_of_inv h
  rcases tickDecode_cases ht with ⟨r, rfl⟩ | ⟨r, rfl⟩ | ⟨i, rfl⟩
  · exact hreg.setCtl_settled hbusy trivial
  · exact (RegInv.initBody (s := s.setSeq .prim) { hreg with }).setCtl_settled hbusy trivial
  · exact (hreg.begun i).setCtl_settled ((begun_busy s i).trans hbusy) trivial

theorem tickSetup_inv (h : Inv s) (hbusy : s.busy = true) : Inv (tickSetup s) := by
  unfold tickSetup
  split
  · exact ((regInv_of_inv h).loadData _).setCtl_settled (by simpa using hbusy) trivial
  · exact h

theorem tickLaunch_inv (h : Inv s) (hbusy : s.busy = true) : Inv (tickLaunch ph kept s) :=
  (((regInv_of_inv h).launch ph).setBudget (budgetAfter_le 0)).setCtl hbusy (by simp)
    (fun _ _ _ => (by decide : 0 < (budgetAfter 0).toNat)) nofun

/-- E_SAMPLE of a phase that is no stop sees DONE in an enabled Core alone. -/
theorem tickSample_inv (h : Inv s) (hbusy : s.busy = true) (hctl : s.ctl = .sample ph kept) :
    Inv (tickSample ph kept s) := by
  have hreg := regInv_of_inv h
  unfold tickSample
  split
  · rename_i hseen
    split
    · exact hreg.stopCleared.setCtl_settled hbusy trivial
    · rename_i hp
      have hdone : s.ctrl.done = true := by
        cases ph with
        | stop => exact absurd rfl hp
        | _ => exact hseen
      refine hreg.setCtl hbusy (by simp) nofun fun _ _ => ?_
      by_contra hen
      exact absurd (hdone.symm.trans (hreg.disabled (by simpa using hen)).1) (by simp)
  · exact hreg.setCtl hbusy (by simp) (fun _ _ _ => h.budgetPos ph kept (.inl hctl)) nofun

theorem tickWait_inv (h : Inv s) (hbusy : s.busy = true) (hctl : s.ctl = .wait ph kept) :
    Inv (tickWait ph kept s) := by
  have hpos := h.budgetPos ph kept (.inr hctl)
  have hsub : (s.budget - 1#8).toNat = s.budget.toNat - 1 :=
    BitVec.toNat_sub_of_le (by rw [BitVec.le_def]; exact hpos)
  have hreg := (regInv_of_inv h).setBudget (b := s.budget - 1#8) (by have := h.budgetLe; omega)
  unfold tickWait
  split
  · exact (hreg.expire ph).setCtl_settled hbusy trivial
  · rename_i hne
    refine hreg.setCtl hbusy (by simp) (fun _ _ _ => ?_) nofun
    exact Nat.pos_of_ne_zero fun hz => hne (BitVec.eq_of_toNat_eq hz)

/-- The Core is enabled at E_READ, so a success may set any bus phase. -/
theorem tickRead_inv (h : Inv s) (hbusy : s.busy = true) (hctl : s.ctl = .read ph) : Inv (tickRead ph s) := by
  have hen : s.ctrl.en = true := by
    by_contra hen
    have ⟨_, _, _, hread⟩ := h.disabled (by simpa using hen)
    exact hread ph hctl
  have hreg : RegInv (s.emit (completedEvent ph s)) := { regInv_of_inv h with }
  cases hv : verdictOf ph s.status with
  | success bp => rw [tickRead_success hv]; exact (hreg.setBp (.inl hen)).setCtl_settled hbusy trivial
  | failure r =>
    cases r with
    | leave => rw [tickRead_leave hv]; exact (hreg.setBp (.inl hen)).setCtl_settled hbusy trivial
    | stop => rw [tickRead_stop hv]; exact hreg.setCtl_settled hbusy trivial
    | release => rw [tickRead_release hv]; exact hreg.setCtl_settled hbusy trivial

theorem RegInv.storeIfReceive (h : RegInv s) (rdata : Byte) : RegInv (storeIfReceive rdata s) := by
  unfold Machine.storeIfReceive
  split
  · exact regInv_keptByReceive.storeRx rdata h
  · exact h

theorem storeIfReceive_busy (rdata : Byte) (s : State) : (storeIfReceive rdata s).busy = s.busy := by
  unfold storeIfReceive
  split <;> rfl

theorem tickNext_inv (h : Inv s) (hbusy : s.busy = true) (o : BusOutcome) (rdata : Byte) :
    Inv (tickNext o rdata s) := by
  have hreg := regInv_of_inv h
  cases o with
  | ok =>
    cases hn : seqNext s.seq s.fields s.idx with
    | some q =>
      simp only [tickNext, hn]
      exact RegInv.setCtl_settled (regInv_keptByPhases.setSeq q (hreg.storeIfReceive rdata))
        ((storeIfReceive_busy rdata s).trans hbusy) trivial
    | none => rw [tickNext_ok_last hn]; exact hreg.setCtl_settled hbusy trivial
  | timeout => exact RegInv.setCtl_settled (c := .respond _ _) hreg hbusy trivial
  | hardwareStatus code => exact RegInv.setCtl_settled (c := .respond _ _) hreg hbusy trivial

theorem tick_inv (h : Inv s) (hbusy : s.busy = true) (ht : tick s = .next t) : Inv t := by
  have hreg := regInv_of_inv h
  unfold tick at ht
  cases hctl : s.ctl with rw [hctl] at ht
  | decode => exact tickDecode_inv h hbusy ht
  | idle => obtain ⟨rfl⟩ := ht; exact h
  | setup => obtain ⟨rfl⟩ := ht; exact tickSetup_inv h hbusy
  | launch ph kept => obtain ⟨rfl⟩ := ht; exact tickLaunch_inv h hbusy
  | sample ph kept => obtain ⟨rfl⟩ := ht; exact tickSample_inv h hbusy hctl
  | wait ph kept => obtain ⟨rfl⟩ := ht; exact tickWait_inv h hbusy hctl
  | read ph => obtain ⟨rfl⟩ := ht; exact tickRead_inv h hbusy hctl
  | release o => obtain ⟨rfl⟩ := ht; exact hreg.release.setCtl_settled hbusy trivial
  | next o rdata => obtain ⟨rfl⟩ := ht; exact tickNext_inv h hbusy o rdata
  | respond r rdata => obtain ⟨rfl⟩ := ht; exact hreg.respond r _ rdata

/-! ### Every step -/

theorem inv_afterReset (n : Nat) (rxbuf : Vector Byte Config.rxbufSize) (inputs : List Input)
    (env : List Config.Answer) : Inv (State.afterReset n rxbuf inputs env) where
  statusLow := statusLow_code _
  budgetLe := Nat.zero_le _
  budgetPos := fun _ _ hctl => hctl.elim nofun nofun
  quietSeq := fun _ => rfl
  quietCtl := ⟨fun _ => rfl, fun _ => rfl⟩
  pendRequest := nofun
  disabled := fun _ => ⟨rfl, rfl, .inl rfl, nofun⟩

theorem beginStep_inv (h : Inv s) (rest : List Input) : Inv (s.beginStep rest) := { h with }

theorem coreComplete_quiet (s : State) (code : BitVec 5) (data : Byte) :
    (s.coreComplete code data).busy = s.busy ∧ (s.coreComplete code data).ctl = s.ctl ∧
      (s.coreComplete code data).seq = s.seq ∧ (s.coreComplete code data).budget = s.budget ∧
      (s.coreComplete code data).ctrl.en = s.ctrl.en := by
  rcases coreComplete_cases s code data with hc | ⟨-, hc⟩ | ⟨ph, -, hc⟩ <;> rw [hc] <;> exact ⟨rfl, rfl, rfl, rfl, rfl⟩

theorem coreComplete_inv (h : Inv s) (code : BitVec 5) (data : Byte) : Inv (s.coreComplete code data) := by
  have hreg := (regInv_of_inv h).coreComplete code data
  obtain ⟨hbusy, hctl, hseq, hbudget, hen⟩ := coreComplete_quiet s code data
  exact
    { statusLow := hreg.statusLow
      budgetLe := hreg.budgetLe
      budgetPos := by rw [hctl, hbudget]; exact h.budgetPos
      quietSeq := by rw [hbusy, hseq]; exact h.quietSeq
      quietCtl := by rw [hbusy, hctl]; exact h.quietCtl
      pendRequest := hreg.pendRequest
      disabled := fun hdis =>
        have ⟨hdone, hlines, hbp⟩ := hreg.disabled hdis
        have ⟨_, _, _, hread⟩ := h.disabled (hen ▸ hdis)
        ⟨hdone, hlines, hbp, hctl ▸ hread⟩ }

/-- A whole command in one step, from its registers alone. -/
theorem RegInv.exec {i : Instr} (h : RegInv s) (he : exec i s = .next t) : Inv t := by
  obtain ⟨u, r, count, rdata, hu, rfl⟩ :=
    regInv_keptByPhases.exec (fun _ => regInv_keptByReceive) (fun _ _ hs => hs.initBody) h he
  exact hu.respond r count rdata

theorem delivered_inv {inp : Input} (h : Inv s) (hd : Delivered s t inp) : Inv t := by
  have hword : ∀ w, RegInv (s.acceptWord w) := fun _ => { regInv_of_inv h with }
  cases hd with
  | reset ht => rw [ht]; exact inv_afterReset _ _ _ _
  | coreComplete code data ht => rw [ht]; exact coreComplete_inv h code data
  | ticked hbusy ht => exact tick_inv h hbusy ht
  | waited _ ht => rw [ht]; exact h
  | ran w _ hrun =>
    rcases runWord_cases hrun with ⟨i, he⟩ | ⟨r, rfl⟩
    · exact (hword w).exec he
    · exact (hword w).respond _ _ _
  | accepted w _ ht => rw [ht]; exact (hword w).setCtl_settled rfl trivial

/-- Settles O42: what a step delivers, case by case. -/
theorem everyStepKeepsInvariant : Obligations.EveryStepKeepsInvariant := by
  unfold Obligations.EveryStepKeepsInvariant
  intro s t h hstep
  obtain ⟨rest, _, hd, -⟩ := step_cases hstep
  exact delivered_inv (beginStep_inv h rest) hd

/-- Settles O41: power-on is one of the resets. -/
theorem resetMeetsInvariant : Obligations.ResetMeetsInvariant := by
  unfold Obligations.ResetMeetsInvariant
  exact inv_afterReset _ _ _ _

end Sys2Proof.Machine
end

section
/-!
PROOFS. What every command leaves unchanged, what it leaves in DATA and STATUS, and the form of its response.
-/

namespace Sys2Proof.Machine

open Safety

variable {s0 s t : State} {i : Instr}

/-! ### The frame of the commands with a phase -/

/-- What no phase and no recovery touches, from `s0` on: DIV, CMDR, EN, the inputs, and the events in TRACE. -/
structure Frame (s0 s : State) : Prop where
  div : s.div = s0.div
  cmdr : s.cmdr = s0.cmdr
  en : s.ctrl.en = s0.ctrl.en
  inputs : s.inputs = s0.inputs
  trace : s0.trace <+: s.trace

theorem Frame.refl (s : State) : Frame s s := ⟨rfl, rfl, rfl, rfl, List.prefix_rfl⟩

theorem frame_keptByPhases (s0 : State) : KeptByPhases (Frame s0) where
  setSeq := fun _ h => { h with }
  setBp := fun _ _ h => { h with }
  release := fun hen h => { h with
    en := hen.symm.trans h.en
    trace := h.trace.trans (List.prefix_append _ _) }
  completed := fun ph _ _ _ _ _ _ _ h => by
    cases ph <;> exact { h with trace := h.trace.trans (List.prefix_append _ _) }
  cleared := fun _ _ _ _ h => { h with trace := h.trace.trans (List.prefix_append _ _) }
  expired := fun ph _ _ h => by
    cases ph <;> exact { h with trace := h.trace.trans (List.prefix_append _ _) }

theorem frame_keptByReceive (s0 : State) : KeptByReceive (Frame s0) where
  clearIdx := fun h => { h with }
  storeRx := fun _ h => { h with }

theorem exec_frame (hi : i ≠ .init) (h : exec i s = .next t) : Frame s t := by
  obtain ⟨u, r, count, rdata, hu, rfl⟩ :=
    (frame_keptByPhases s).exec (fun _ => frame_keptByReceive s) (fun hinit => absurd hinit hi) (.refl s) h
  exact { hu with }

/-- RXBUF and IDX, which only a register read touches. -/
def SameBuffer (s0 s : State) : Prop := s.rxbuf = s0.rxbuf ∧ s.idx = s0.idx

theorem sameBuffer_keptByPhases (s0 : State) : KeptByPhases (SameBuffer s0) where
  setSeq := fun _ h => h
  setBp := fun _ _ h => h
  release := fun _ h => h
  completed := fun ph _ _ _ _ _ _ _ h => by cases ph <;> exact h
  cleared := fun _ _ _ _ h => h
  expired := fun ph _ _ h => by cases ph <;> exact h

theorem exec_sameBuffer (hm : i.mnemonic ≠ "READ_REGISTER") (h : exec i s = .next t) : SameBuffer s t := by
  obtain ⟨u, r, count, rdata, hu, rfl⟩ :=
    (sameBuffer_keptByPhases s).exec (fun hread => absurd hread hm) (fun _ _ hs => hs) ⟨rfl, rfl⟩ h
  exact hu

/-- Settles O33, from the frame of each operation of a phase. -/
theorem frameOfPolledCommands : Obligations.FrameOfPolledCommands := by
  unfold Obligations.FrameOfPolledCommands
  intro i s t hi h
  obtain ⟨hdiv, hcmdr, hen, hinputs, htrace⟩ := exec_frame hi h
  exact ⟨hdiv, hcmdr, hen, hinputs, htrace, fun hm => exec_sameBuffer hm h⟩

/-! ### DATA and STATUS -/

/-- DATA and STATUS follow the events added since `s0`. -/
def FollowsEvents (s0 s : State) : Prop :=
  ∃ new, s.trace = s0.trace ++ new ∧
    s.data = (new.filterMap movedByte).getLast?.getD s0.data ∧
    s.status = (new.filterMap reportedStatus).getLast?.getD s0.status

theorem FollowsEvents.refl (s : State) : FollowsEvents s s := ⟨[], by simp, rfl, rfl⟩

/-- The last value an event gives, when one event more is added. -/
theorem lastSeen_append {α β : Type} (f : α → Option β) (l : List α) (a : α) (d : β) :
    ((l ++ [a]).filterMap f).getLast?.getD d = (f a).getD ((l.filterMap f).getLast?.getD d) := by
  cases h : f a <;> simp [h]

/-- One event more, with the byte and the status it tells of. -/
theorem FollowsEvents.event (h : FollowsEvents s0 s) (ev : Event) (htrace : t.trace = s.trace ++ [ev])
    (hdata : t.data = (movedByte ev).getD s.data) (hstatus : t.status = (reportedStatus ev).getD s.status) :
    FollowsEvents s0 t := by
  obtain ⟨new, htr, hd, hst⟩ := h
  refine ⟨new ++ [ev], by rw [htrace, htr, List.append_assoc], ?_, ?_⟩
  · rw [lastSeen_append, hdata, hd]
  · rw [lastSeen_append, hstatus, hst]

theorem followsEvents_keptByPhases (s0 : State) : KeptByPhases (FollowsEvents s0) where
  setSeq := fun _ h => h
  setBp := fun _ _ h => h
  release := fun _ h => h.event .release rfl rfl rfl
  completed := fun ph _ _ _ _ _ _ _ h => by
    cases ph <;> exact h.event _ rfl rfl rfl
  cleared := fun _ _ _ _ h => h.event (.phase .stop .stopCleared) rfl rfl rfl
  expired := fun ph _ _ h => by cases ph <;> exact h.event (.phase _ .expired) rfl rfl rfl

theorem followsEvents_keptByReceive (s0 : State) : KeptByReceive (FollowsEvents s0) where
  clearIdx := fun h => h
  storeRx := fun _ h => h

theorem exec_followsEvents (h : exec i s = .next t) : FollowsEvents s t := by
  obtain ⟨u, r, count, rdata, hu, rfl⟩ :=
    (followsEvents_keptByPhases s).exec (fun _ => followsEvents_keptByReceive s)
      (fun _ _ hs => hs.event .init rfl rfl rfl) (.refl s) h
  exact hu

/-- A recovery sends no byte and reads no status (R116, R117). -/
theorem recover_data_status (r : Recovery) (s : State) :
    (recover r s).data = s.data ∧ (recover r s).status = s.status := by
  cases r with
  | leave => exact ⟨rfl, rfl⟩
  | stop =>
    rcases stopPhase_cases s with ⟨-, k, e, n, -, h⟩ | ⟨e, n, h⟩ <;> rw [recover, h] <;> exact ⟨rfl, rfl⟩
  | release => exact ⟨rfl, rfl⟩

/-- A phase that receives nothing leaves in DATA the byte it sent, if any (R118). -/
theorem runPhase_data {ph : Phase} (hp : ph ≠ .stop) (hrx : ph.isRx = false) (verdict : Byte → Verdict) (s : State) :
    (runPhase ph verdict s).state.data = ph.sends.getD s.data := by
  rcases runPhase_cases hp verdict s with
    ⟨-, k, code, data, e, n, -, ⟨bp, -, hr⟩ | ⟨r, -, hr⟩⟩ | ⟨e, n, hr⟩ <;>
  simp [hr, recover_data_status, State.completed, State.coreDone, State.launched, State.launch, State.expire, hrx]

/-- A well-formed command leaves the registers its body left. -/
theorem exec_data_status (hwf : i.wf = true) (h : exec i s = .next t) :
    t.data = (commandBody i s).state.data ∧ t.status = (commandBody i s).state.status := by
  rcases exec_next_cases h with ⟨-, -, rfl⟩ | ⟨hbad, -⟩
  · exact ⟨rfl, rfl⟩
  · simp [hwf] at hbad

/-- Settles O34: every event is added with the byte and the status it tells of; the five commands named are one phase or
none. -/
theorem dataAndStatusFrame : Obligations.DataAndStatusFrame := by
  unfold Obligations.DataAndStatusFrame
  intro s t
  refine ⟨fun i h => exec_followsEvents h, ?_, ?_, ?_, ?_⟩
  · rintro (h | h)
    · exact exec_data_status rfl h
    · obtain ⟨hdata, hstatus⟩ := exec_data_status rfl h
      obtain ⟨hd, hst⟩ := recover_data_status .stop (s.setSeq .prim)
      exact ⟨hdata.trans hd, hstatus.trans hst⟩
  · intro h
    exact (exec_data_status rfl h).1.trans (runPhase_data (by simp) rfl _ _)
  · intro dev rw h
    exact (exec_data_status rfl h).1.trans (runPhase_data (by simp) rfl _ _)
  · intro val h
    exact (exec_data_status rfl h).1.trans (runPhase_data (by simp) rfl _ _)

/-! ### The response -/

/-- An outcome `HardwareStatus` is the value of STATUS, unmodified (R40). -/
def Unmodified (e : Ended) : Prop := ∀ c, e.outcome = .hardwareStatus c → e.state.status = c

theorem runPhase_unmodified {ph : Phase} (hp : ph ≠ .stop) (verdict : Byte → Verdict) (s : State) :
    Unmodified (runPhase ph verdict s) := by
  intro c hc
  rcases runPhase_cases hp verdict s with
    ⟨-, k, code, data, e, n, -, ⟨bp, -, hr⟩ | ⟨r, -, hr⟩⟩ | ⟨e, n, hr⟩ <;> rw [hr] at hc ⊢
  · cases hc
  · obtain ⟨rfl⟩ := hc
    exact (recover_data_status r _).2
  · cases hc

theorem runStop_unmodified (s : State) : Unmodified (runStop s) := by
  intro c hc
  rcases stopPhase_cases s with ⟨-, k, e, n, -, h⟩ | ⟨e, n, h⟩ <;> simp [runStop, h] at hc

theorem unmodified_stepRule : StepRule Eq (Both Unmodified) where
  outcome := fun he => congrArg Ended.outcome he.1
  state := fun he => congrArg Ended.state he.1
  setSeq := fun q hs => congrArg (·.setSeq q) hs
  phase := by rintro s _ ph verdict hp rfl; exact ⟨rfl, runPhase_unmodified hp verdict s⟩
  stop := by rintro s _ rfl; exact ⟨rfl, runStop_unmodified s⟩

theorem unmodified_receiveRule : ReceiveRule Eq (Both Unmodified) where
  idx := fun hs => congrArg State.idx hs
  rdata := fun he => congrArg Ended.rdata he.1
  clearIdx := fun hs => congrArg State.clearIdx hs
  storeRx := fun d hs => congrArg (·.storeRx d) hs
  done := by rintro s _ rfl; exact ⟨rfl, nofun⟩

theorem commandBody_unmodified (i : Instr) (s : State) : Unmodified (commandBody i s) := by
  by_cases hi : i = .init
  · subst hi
    exact nofun
  · exact (unmodified_stepRule.commandBody (fun _ => unmodified_receiveRule) hi rfl).2

/-- Settles O26, from the fields of the response word and the outcome of the body. -/
theorem responseOfEveryCommand : Obligations.ResponseOfEveryCommand := by
  unfold Obligations.ResponseOfEveryCommand
  intro i s t hwf h
  rcases exec_next_cases h with ⟨-, -, rfl⟩ | ⟨hbad, -⟩
  · have hstatus := commandBody_unmodified i s
    generalize commandBody i s = e at hstatus
    obtain ⟨htag, hcode, hcount, -, hzero⟩ :=
      responseWord_fields (.outcome e.outcome) (e.count i) (e.shownByte i)
    refine ⟨rfl, rfl, rfl, ?_, hzero, fun hm => hcount.trans (if_neg hm), ?_, ?_⟩ <;>
      simp only [Ended.answer, State.respond, htag, hcode]
    · cases e.outcome <;> simp [Response.tag]
    · cases e.outcome <;> simp [Response.tag, Response.code]
    · cases ho : e.outcome with
      | hardwareStatus c => exact fun _ => (hstatus c ho).symm
      | _ => simp [Response.tag]
  · simp [hwf] at hbad

end Sys2Proof.Machine
end

section
/-!
PROOFS. TRACE grows and EN stays at every step but a reset; a quiet block that waits; a late completion; the values
after power-on.
-/

namespace Sys2Proof.Machine

open Safety

variable {s t : State} {inp : Input}

/-- TRACE has only grown, and an enabled controller is still enabled (R26, R42). -/
structure Grown (s t : State) : Prop where
  trace : s.trace <+: t.trace
  en : s.ctrl.en = true → t.ctrl.en = true

theorem Grown.refl (s : State) : Grown s s := ⟨List.prefix_rfl, id⟩

theorem Grown.of_event {ev : Event} (htrace : t.trace = s.trace ++ [ev]) (hen : t.ctrl.en = s.ctrl.en) : Grown s t :=
  ⟨htrace ▸ List.prefix_append _ _, hen.trans⟩

theorem Grown.of_eq (htrace : t.trace = s.trace) (hen : t.ctrl.en = s.ctrl.en) : Grown s t :=
  ⟨htrace ▸ List.prefix_rfl, hen.trans⟩

theorem Frame.grown (h : Frame s t) : Grown s t := ⟨h.trace, h.en.trans⟩

theorem exec_grown {i : Instr} (h : exec i s = .next t) : Grown s t := by
  by_cases hi : i = .init
  · subst hi
    rcases exec_next_cases h with ⟨-, -, rfl⟩ | ⟨-, rfl⟩
    · exact ⟨List.prefix_append _ _, fun _ => rfl⟩
    · exact .of_eq rfl rfl
  · exact (exec_frame hi h).grown

/-! ### The micro-steps (R120) -/

theorem tickDecode_grown (h : tickDecode s = .next t) : Grown s t := by
  rcases tickDecode_cases h with ⟨r, rfl⟩ | ⟨r, rfl⟩ | ⟨i, rfl⟩
  · exact .of_eq rfl rfl
  · exact ⟨List.prefix_append _ _, fun _ => rfl⟩
  · cases i <;> exact .of_eq rfl rfl

theorem tickSetup_grown (s : State) : Grown s (tickSetup s) := by
  unfold tickSetup
  split
  · exact .of_eq (by simp) (by simp)
  · exact .refl s

theorem tickSample_grown (ph : Phase) (kept : Option BusOutcome) (s : State) : Grown s (tickSample ph kept s) := by
  unfold tickSample
  split
  · split
    · exact .of_event rfl rfl
    · exact .of_eq rfl rfl
  · exact .of_eq rfl rfl

theorem tickWait_grown (ph : Phase) (kept : Option BusOutcome) (s : State) : Grown s (tickWait ph kept s) := by
  unfold tickWait
  split
  · exact .of_event rfl rfl
  · exact .of_eq rfl rfl

theorem tickRead_grown (ph : Phase) (s : State) : Grown s (tickRead ph s) := by
  unfold tickRead
  split <;> exact .of_event rfl rfl

theorem storeIfReceive_grown (rdata : Byte) (s : State) : Grown s (storeIfReceive rdata s) := by
  unfold storeIfReceive
  split <;> exact .of_eq rfl rfl

theorem tickNext_grown (o : BusOutcome) (rdata : Byte) (s : State) : Grown s (tickNext o rdata s) := by
  unfold tickNext
  split
  · split
    · exact ⟨(storeIfReceive_grown rdata s).trace, (storeIfReceive_grown rdata s).en⟩
    · exact .of_eq rfl rfl
  · exact .of_eq rfl rfl

theorem tick_grown (h : tick s = .next t) : Grown s t := by
  unfold tick at h
  cases hctl : s.ctl with rw [hctl] at h
  | decode => exact tickDecode_grown h
  | idle => obtain ⟨rfl⟩ := h; exact .refl s
  | setup => obtain ⟨rfl⟩ := h; exact tickSetup_grown s
  | launch ph kept => obtain ⟨rfl⟩ := h; exact .of_eq rfl rfl
  | sample ph kept => obtain ⟨rfl⟩ := h; exact tickSample_grown ph kept s
  | wait ph kept => obtain ⟨rfl⟩ := h; exact tickWait_grown ph kept s
  | read ph => obtain ⟨rfl⟩ := h; exact tickRead_grown ph s
  | release o => obtain ⟨rfl⟩ := h; exact ⟨List.prefix_append _ _, fun _ => rfl⟩
  | next o rdata => obtain ⟨rfl⟩ := h; exact tickNext_grown o rdata s
  | respond r rdata => obtain ⟨rfl⟩ := h; exact .of_eq rfl rfl

/-! ### Every step but a reset -/

theorem delivered_grown (hd : Delivered s t inp) (hinp : inp ≠ .reset) : Grown s t := by
  cases hd with
  | reset => exact absurd rfl hinp
  | coreComplete code data ht =>
    rcases coreComplete_cases s code data with hc | ⟨-, hc⟩ | ⟨ph, -, hc⟩ <;> rw [ht, hc] <;>
      exact .of_eq rfl rfl
  | ticked _ ht => exact tick_grown ht
  | waited _ ht => rw [ht]; exact .refl s
  | ran w _ hrun =>
    rcases runWord_cases hrun with ⟨i, he⟩ | ⟨r, rfl⟩
    · exact ⟨(exec_grown he).trace, (exec_grown he).en⟩
    · exact .of_eq rfl rfl
  | accepted w _ ht => rw [ht]; exact .of_eq rfl rfl

theorem step_grown (hin : s.inputs.head? ≠ some .reset) (h : step s = .next t) : Grown s t := by
  obtain ⟨rest, inp, hd, hreset⟩ := step_cases h
  have hgrown := delivered_grown hd fun hr => hin (hreset hr)
  exact ⟨hgrown.trace, hgrown.en⟩

/-- Settles O43, from what every step but a reset keeps. -/
theorem traceOnlyGrows : Obligations.TraceOnlyGrows := by
  unfold Obligations.TraceOnlyGrows
  exact fun _ _ hin h => (step_grown hin h).trace

/-- Settles O44, from what every step but a reset keeps. -/
theorem onlyResetDisables : Obligations.OnlyResetDisables := by
  unfold Obligations.OnlyResetDisables
  exact fun _ _ hin hen h => (step_grown hin h).en hen

/-! ### Single steps -/

/-- Settles O11: the idle entry and the empty list are delivered alike. -/
theorem quietBlockWaits : Obligations.QuietBlockWaits := by
  unfold Obligations.QuietBlockWaits
  intro s hbusy
  have hidle : ∀ rest, deliver .idle (s.beginStep rest) = .next (s.beginStep rest) :=
    fun _ => if_neg (by simp [State.beginStep, hbusy])
  refine ⟨fun rest hin => (step_cons hin).trans (hidle rest), fun hin => ?_⟩
  rw [step_nil hin, hidle, State.beginStep, ← hin]

/-- Settles O12: the state after power-on is written out in `State.afterReset`. -/
theorem resetValues : Obligations.ResetValues := by
  unfold Obligations.ResetValues
  exact ⟨by decide, rfl, rfl, rfl, rfl, rfl, rfl, rfl, rfl, rfl, rfl⟩

/-- Settles O36: the cases of `CoreComplete` (R114). -/
theorem lateCompletion : Obligations.LateCompletion := by
  unfold Obligations.LateCompletion
  intro s code d rest hin
  have hstep : step s = .next ((s.beginStep rest).coreComplete code d) := step_cons hin
  rw [hstep]
  refine ⟨?_, fun hpend hen => ?_, fun ph hpend hp hen => ?_⟩
  · rintro (hpend | hen)
    · rw [coreComplete_none (s := s.beginStep rest) hpend]; rfl
    · rw [coreComplete_disabled (s := s.beginStep rest) hen]; rfl
  · rw [coreComplete_stop (s := s.beginStep rest) hpend hen]
    exact ⟨.released, rfl⟩
  · rw [coreComplete_phase (s := s.beginStep rest) hpend hp hen]
    cases ph with
    | stop => exact absurd rfl hp
    | rx ack => cases ack <;> exact ⟨s.lines, rfl⟩
    | _ => exact ⟨s.lines, rfl⟩

end Sys2Proof.Machine
end

section
/-!
PROOFS. A late completion changes no later command: a Launch overwrites what it did to CTRL, PEND and the lines, and no
command reads STATUS or DATA before they are written.
-/

namespace Sys2Proof.Machine

variable {s s' t : State} {e e' : Ended} {i : Instr} {ph : Phase}

/-! ### STATUS and DATA are not read before they are written -/

/-- The two states differ at most in STATUS and DATA. -/
def Alike (s s' : State) : Prop := ∃ st d, s' = { s with status := st, data := d }

/-- Two results of an operation: the same answer, beside states that differ at most in STATUS and DATA. -/
def AlikeBeside {α : Type} (r r' : α × State) : Prop :=
  ∃ a u st d, r = (a, u) ∧ r' = (a, { u with status := st, data := d })

/-- Two ends of a body that differ at most in STATUS and DATA. -/
structure AlikeEnd (e e' : Ended) : Prop where
  outcome : e.outcome = e'.outcome
  rdata : e.rdata = e'.rdata
  state : Alike e.state e'.state

theorem Alike.launched (h : Alike s s') (ph : Phase) : Alike (s.launched ph) (s'.launched ph) := by
  obtain ⟨st, d, rfl⟩ := h
  cases ph <;> exact ⟨_, _, rfl⟩

theorem takeAnswer_alike (h : Alike s s') : AlikeBeside (takeAnswer s) (takeAnswer s') := by
  obtain ⟨st, d, rfl⟩ := h
  unfold takeAnswer
  cases henv : s.env <;> exact ⟨_, _, st, d, rfl, rfl⟩

theorem envAnswer_alike (ph : Phase) (h : Alike s s') : AlikeBeside (envAnswer ph s) (envAnswer ph s') := by
  obtain ⟨a, u, st, d, ha, ha'⟩ := takeAnswer_alike h
  obtain ⟨st', d', rfl⟩ := h
  cases hen : s.ctrl.en with
  | true => exact ⟨resultOf a ph, u, st, d, by simp [envAnswer, hen, ha], by simp [envAnswer, hen, ha']⟩
  | false => exact ⟨.never, s, st', d', by simp [envAnswer, hen], by simp [envAnswer, hen]⟩

theorem stopPhase_alike (h : Alike s s') : AlikeBeside (stopPhase s) (stopPhase s') := by
  obtain ⟨r, u, st, d, ha, ha'⟩ := envAnswer_alike .stop (h.launched .stop)
  simp only [State.launched, State.loadData, Phase.sends] at ha ha'
  simp only [stopPhase, await, ha, ha']
  cases r <;> exact ⟨_, _, _, _, rfl, rfl⟩

theorem recover_alike (r : Recovery) (h : Alike s s') : Alike (recover r s) (recover r s') := by
  cases r with
  | stop =>
    obtain ⟨_, u, st, d, hstop, hstop'⟩ := stopPhase_alike h
    exact ⟨st, d, by rw [recover, recover, hstop, hstop']⟩
  | leave | release => obtain ⟨st, d, rfl⟩ := h; exact ⟨st, d, rfl⟩

/-- A phase that is no stop is not answered by a cleared STO. -/
theorem envAnswer_ne_cleared (hp : ph ≠ .stop) (s : State) (k : Nat) : (envAnswer ph s).1 ≠ .cleared k := by
  unfold envAnswer
  split
  · rcases resultOf_cases (a := (takeAnswer s).1) hp with ⟨_, -, -, hr⟩ | hr <;> simp [hr]
  · simp

/-- What a status calls for. -/
theorem settle_alike (verdict : Byte → Verdict) (c : Byte) (h : Alike s s') (hrx : ph.isRx = true → s.data = s'.data) :
    AlikeEnd (settle ph verdict (.code c, s)) (settle ph verdict (.code c, s')) := by
  cases hv : verdict c with
  | success bp =>
    simp only [settle, hv]
    refine ⟨rfl, by split <;> simp_all, ?_⟩
    obtain ⟨st, d, rfl⟩ := h
    exact ⟨st, d, rfl⟩
  | failure r =>
    simp only [settle, hv]
    exact ⟨rfl, rfl, recover_alike r h⟩

/-- The status a phase ends with is the one the Core has just written, and so is the byte of a receive. -/
theorem runPhase_alike (verdict : Byte → Verdict) (hp : ph ≠ .stop) (h : Alike s s') :
    AlikeEnd (runPhase ph verdict s) (runPhase ph verdict s') := by
  obtain ⟨r, u, st, d, ha, ha'⟩ := envAnswer_alike ph (h.launched ph)
  have hne := envAnswer_ne_cleared hp (s.launched ph)
  rw [ha] at hne
  simp only [State.launched] at ha ha'
  simp only [runPhase, donePhase, await, ha, ha']
  cases r with
  | done k code data =>
    refine settle_alike verdict code ?_ fun hrx => ?_
    · cases ph <;> exact ⟨code, _, rfl⟩
    · exact (if_pos hrx).trans (if_pos hrx).symm
  | cleared k => exact absurd rfl (hne k)
  | never => exact ⟨rfl, rfl, st, d, rfl⟩

theorem alike_stepRule : StepRule Alike AlikeEnd where
  outcome := AlikeEnd.outcome
  state := AlikeEnd.state
  setSeq := by rintro s _ q ⟨st, d, rfl⟩; exact ⟨st, d, rfl⟩
  phase := runPhase_alike
  stop := fun h => by
    obtain ⟨o, u, st, d, hstop, hstop'⟩ := stopPhase_alike h
    simp only [runStop, hstop, hstop']
    exact ⟨rfl, rfl, st, d, rfl⟩

theorem alike_receiveRule : ReceiveRule Alike AlikeEnd where
  idx := by rintro s _ ⟨st, d, rfl⟩; rfl
  rdata := AlikeEnd.rdata
  clearIdx := by rintro s _ ⟨st, d, rfl⟩; exact ⟨st, d, rfl⟩
  storeRx := by rintro s _ b ⟨st, d, rfl⟩; exact ⟨st, d, rfl⟩
  done := fun h => ⟨rfl, rfl, h⟩

theorem AlikeEnd.answer (h : AlikeEnd e e') (i : Instr) : Alike (e.answer i) (e'.answer i) := by
  obtain ⟨o, b, u⟩ := e
  obtain ⟨o', b', u'⟩ := e'
  obtain ⟨rfl, rfl, st, d, rfl⟩ := h
  exact ⟨st, d, rfl⟩

/-! ### A Launch overwrites what a completion did to the other registers -/

theorem setSeq_launched (q : Seq) (h : s.launched ph = s'.launched ph) :
    (s.setSeq q).launched ph = (s'.setSeq q).launched ph := by
  have hcomm : ∀ u : State, (u.setSeq q).launched ph = (u.launched ph).setSeq q := fun _ => by cases ph <;> rfl
  rw [hcomm, hcomm, h]

theorem clearIdx_launched (h : s.launched ph = s'.launched ph) : s.clearIdx.launched ph = s'.clearIdx.launched ph := by
  have hcomm : ∀ u : State, u.clearIdx.launched ph = (u.launched ph).clearIdx := fun _ => by cases ph <;> rfl
  rw [hcomm, hcomm, h]

theorem runPhase_congr (verdict : Byte → Verdict) (h : s.launched ph = s'.launched ph) :
    runPhase ph verdict s = runPhase ph verdict s' := by
  simp only [State.launched] at h
  simp only [runPhase, donePhase, h]

theorem runStop_congr (h : s.launched .stop = s'.launched .stop) : runStop s = runStop s' := by
  simp only [State.launched, State.loadData, Phase.sends] at h
  simp only [runStop, stopPhase, h]

/-- A command with a phase begins with a Launch, and reads nothing that a Launch writes before it. -/
theorem commandBody_congr (hi : i ≠ .init) (h : ∀ ph, s.launched ph = s'.launched ph) :
    commandBody i s = commandBody i s' := by
  have hphase : ∀ ph verdict q, runPhase ph verdict (s.setSeq q) = runPhase ph verdict (s'.setSeq q) :=
    fun ph verdict q => runPhase_congr verdict (setSeq_launched q (h ph))
  cases i with
  | init => exact absurd rfl hi
  | stop => exact runStop_congr (setSeq_launched .prim (h .stop))
  | start | sendAddress | writeByte | readByteAck | readByteNack => exact hphase _ _ .prim
  | writeRegister dev reg val =>
    simp only [commandBody, writeRegisterBody, startBody, hphase]
  | readRegister dev reg len =>
    have hstart := runPhase_congr startVerdict (setSeq_launched .r0 (clearIdx_launched (h .start)))
    simp only [commandBody, readRegisterBody, startBody, hstart]

/-- The next Launch leaves no trace of a completion but in STATUS and DATA. -/
theorem coreComplete_launched (s : State) (code : BitVec 5) (data : Byte) :
    ∃ u, Alike s u ∧ ∀ ph, (s.coreComplete code data).launched ph = u.launched ph := by
  rcases coreComplete_cases s code data with hc | ⟨hen, hc⟩ | ⟨pending, -, hc⟩ <;> rw [hc]
  · exact ⟨s, ⟨s.status, s.data, rfl⟩, fun _ => rfl⟩
  · refine ⟨s, ⟨s.status, s.data, rfl⟩, fun ph => ?_⟩
    cases ph <;> simp [State.launched, State.launch, State.loadData, Phase.sends, State.coreStopped, linesAtLaunch,
      Ctrl.launch, hen]
  · exact ⟨_, ⟨code ++ 0#3, if pending.isRx then data else s.data, rfl⟩, fun ph => by cases ph <;> rfl⟩

theorem initBody_coreComplete (s : State) (code : BitVec 5) (data : Byte) :
    AlikeEnd (commandBody .init s) (commandBody .init (s.coreComplete code data)) := by
  rcases coreComplete_cases s code data with hc | ⟨-, hc⟩ | ⟨ph, -, hc⟩ <;> rw [hc] <;>
    exact ⟨rfl, rfl, _, _, rfl⟩

theorem commandBody_coreComplete (i : Instr) (s : State) (code : BitVec 5) (data : Byte) :
    AlikeEnd (commandBody i s) (commandBody i (s.coreComplete code data)) := by
  by_cases hi : i = .init
  · subst hi
    exact initBody_coreComplete s code data
  · obtain ⟨u, hu, hlaunch⟩ := coreComplete_launched s code data
    rw [commandBody_congr hi hlaunch]
    exact alike_stepRule.commandBody (fun _ => alike_receiveRule) hi hu

theorem admitted_coreComplete (i : Instr) (s : State) (code : BitVec 5) (data : Byte) :
    admitted i (s.coreComplete code data) = admitted i s := by
  rcases coreComplete_cases s code data with hc | ⟨-, hc⟩ | ⟨ph, -, hc⟩ <;> rw [hc] <;> rfl

/-- Settles O37, from the two runs of the body side by side. -/
theorem lateCompletionChangesNoCommand : Obligations.LateCompletionChangesNoCommand := by
  unfold Obligations.LateCompletionChangesNoCommand
  intro i s t code data hwf h
  rcases exec_next_cases h with ⟨-, ha, rfl⟩ | ⟨hbad, -⟩
  · obtain ⟨st, d, halike⟩ := (commandBody_coreComplete i s code data).answer i
    refine ⟨(commandBody i (s.coreComplete code data)).answer i, ?_, by rw [halike]⟩
    rw [exec_eq_issue hwf, issue_admitted (by rw [admitted_coreComplete, ha]), afterCommand_eq_answer]
  · simp [hwf] at hbad

end Sys2Proof.Machine
end

section
/-!
PROOFS. The step of a quiet block that is given a word (R76, R140).
-/

namespace Sys2Proof.Machine

/-- Settles O8: the word is delivered to a block that is not busy, decoded, and run. -/
theorem stepRunsDecodedCommand : Obligations.StepRunsDecodedCommand := by
  unfold Obligations.StepRunsDecodedCommand
  intro s w i rest hbusy hin hdec
  calc step s = deliver (.command w) (s.beginStep rest) := step_cons hin
    _ = runWord w (s.beginStep rest) := if_neg (by simp [hbusy])
    _ = exec i ((s.beginStep rest).acceptWord w) := by rw [runWord, hdec]

end Sys2Proof.Machine
end

section
/-!
PROOFS. What a phase does with the answer that stands first in the script (R78, R117, R118), and the bus phases a command
is admitted in (R149).
-/

namespace Sys2Proof.Machine

open Safety

variable {s u : State} {a : Config.Answer} {ph : Phase} {rest : List Config.Answer} {verdict : Byte → Verdict}
  {bp : BusPhase} {r : Recovery} {k : Nat} {i : Instr}

/-! ### The answer as a result (R78) -/

theorem resultOf_unseen (h : seenAt a = none) (ph : Phase) : resultOf a ph = .never := by
  cases hd : a.delay with
  | none => simp [resultOf, hd]
  | some k =>
    have hk : ¬k < Config.pollLimit := by simpa [seenAt, hd, Option.filter] using h
    simp [resultOf, hd, hk]

theorem seenAt_eq_some (h : seenAt a = some k) : a.delay = some k ∧ k < Config.pollLimit := by
  simpa [seenAt, Option.filter_eq_some_iff] using h

theorem resultOf_seen (h : seenAt a = some k) (hp : ph ≠ .stop) : resultOf a ph = .done k (codeOf a) a.data := by
  obtain ⟨hd, hk⟩ := seenAt_eq_some h
  cases ph with
  | stop => exact absurd rfl hp
  | _ => simp [resultOf, hd, hk, codeOf]

theorem resultOf_stop_seen (h : seenAt a = some k) : resultOf a .stop = .cleared k := by
  obtain ⟨hd, hk⟩ := seenAt_eq_some h
  simp [resultOf, hd, hk]

/-- EA6: a line held low leaves every phase unanswered. -/
theorem seenAt_of_lineLow {bus : Bus} (hl : bus.lineLow = true) (h : conforming bus ph (resultOf a ph)) :
    seenAt a = none := by
  rw [conforming_lineLow hl] at h
  cases hseen : seenAt a with
  | none => rfl
  | some k =>
    cases ph with
    | stop => rw [resultOf_stop_seen hseen] at h; cases h
    | _ => rw [resultOf_seen hseen (by simp)] at h; cases h

/-- EA1: a start phase is answered, with one of the statuses of a start or with arbitration lost. -/
theorem seenAt_of_start {bus : Bus} (hl : bus.lineLow = false) (h : conforming bus .start (resultOf a .start)) :
    ∃ k, seenAt a = some k ∧ ((codeOf a = 0x08#8 ∨ codeOf a = 0x10#8) ∨ codeOf a = 0x38#8) := by
  cases hseen : seenAt a with
  | none => simp [resultOf_unseen hseen, conforming, hl] at h
  | some k =>
    have hstatus : codeOf a = (if bus.held then 0x10#8 else 0x08#8) ∨ codeOf a = 0x38#8 := by
      simpa [resultOf_seen hseen, conforming, hl] using h
    refine ⟨k, rfl, hstatus.imp_left fun hsent => ?_⟩
    split at hsent
    · exact .inr hsent
    · exact .inl hsent

/-- EA6: an absent device is answered, with the not-acknowledged status. -/
theorem seenAt_of_absent {bus : Bus} {b : Byte} (hl : bus.lineLow = false) (hd : b.extractLsb' 1 7 ∉ bus.devices)
    (h : conforming bus (.addr b) (resultOf a (.addr b))) : ∃ k, seenAt a = some k ∧ codeOf a = addrNackCode b := by
  obtain ⟨_, _, hr⟩ := (conforming_absent hl hd _).1 h
  cases hseen : seenAt a with
  | none => simp [resultOf_unseen hseen] at hr
  | some k =>
    rw [resultOf_seen hseen (by simp)] at hr
    injection hr with _ hcode
    exact ⟨k, rfl, hcode⟩

/-- EA5: a stop on a bus that is free to be released is seen cleared. -/
theorem seenAt_of_releasable {bus : Bus} (hl : bus.lineLow = false) (hr : bus.releasable = true)
    (h : conforming bus .stop (resultOf a .stop)) : ∃ k, seenAt a = some k := by
  obtain ⟨_, hc⟩ := (conforming_stop hl hr _).1 h
  cases hseen : seenAt a with
  | none => simp [resultOf_unseen hseen] at hc
  | some k => exact ⟨k, rfl⟩

/-! ### One phase -/

/-- The state after a phase that is no stop was seen to end, before its status is acted on. -/
def State.answeredBy (s : State) (ph : Phase) (a : Config.Answer) (k : Nat) (rest : List Config.Answer) : State :=
  (s.completed ph k a.code a.data rest s.draws).emit
    (completedEvent ph (s.completed ph k a.code a.data rest s.draws))

theorem State.launched_env (s : State) (ph : Phase) : (s.launched ph).env = s.env := by
  simp [State.launched]

theorem State.launched_en (s : State) (ph : Phase) : (s.launched ph).ctrl.en = s.ctrl.en := by
  simp [State.launched]

theorem donePhase_seen (hp : ph ≠ .stop) (hen : s.ctrl.en = true) (henv : s.env = a :: rest)
    (hseen : seenAt a = some k) : donePhase ph s = (.code (codeOf a), s.answeredBy ph a k rest) := by
  have hans := envAnswer_enabled ph ((s.launched_en ph).trans hen) ((s.launched_env ph).trans henv)
  rw [resultOf_seen hseen hp, State.launched] at hans
  have hdraws : (s.launched ph).draws = s.draws := by simp [State.launched]
  simp only [donePhase, await, hans]
  rw [State.answeredBy, ← hdraws]
  rfl

theorem runPhase_success (hp : ph ≠ .stop) (hen : s.ctrl.en = true) (henv : s.env = a :: rest)
    (hseen : seenAt a = some k) (hv : verdict (codeOf a) = .success bp) :
    runPhase ph verdict s =
      { outcome := .ok, rdata := if ph.isRx then a.data else 0#8, state := (s.answeredBy ph a k rest).setBp bp } := by
  simp only [runPhase, donePhase_seen hp hen henv hseen, settle, hv]
  cases ph <;> rfl

theorem runPhase_failure (hp : ph ≠ .stop) (hen : s.ctrl.en = true) (henv : s.env = a :: rest)
    (hseen : seenAt a = some k) (hv : verdict (codeOf a) = .failure r) :
    runPhase ph verdict s =
      { outcome := .hardwareStatus (codeOf a), rdata := 0#8, state := recover r (s.answeredBy ph a k rest) } := by
  simp only [runPhase, donePhase_seen hp hen henv hseen, settle, hv]

theorem stopPhase_seen (hen : s.ctrl.en = true) (henv : s.env = a :: rest) (hseen : seenAt a = some k) :
    stopPhase s = (.ok, ({ ({ s.launch .stop with env := rest }).coreStopped with
      budget := budgetAfter k }).stopCleared) := by
  have hans := envAnswer_enabled (s := s.launch .stop) .stop hen henv
  rw [resultOf_stop_seen hseen] at hans
  simp only [stopPhase, await, hans]

theorem runPhase_never (h : envAnswer ph (s.launched ph) = (.never, u)) (verdict : Byte → Verdict) :
    runPhase ph verdict s = { outcome := .timeout, rdata := 0#8, state := ({ u with budget := 0#8 }).expire ph } := by
  rw [State.launched] at h
  simp only [runPhase, donePhase, await, h, settle]

theorem runStop_never (h : envAnswer .stop (s.launched .stop) = (.never, u)) :
    runStop s = { outcome := .timeout, rdata := 0#8, state := ({ u with budget := 0#8 }).expire .stop } := by
  simp only [State.launched, State.loadData, Phase.sends] at h
  simp only [runStop, stopPhase, await, h]

theorem startVerdict_sent {c : Byte} (h : c = 0x08#8 ∨ c = 0x10#8) : startVerdict c = .success .started := by
  rcases h with rfl | rfl <;> rfl

/-! ### The legal order (R149) -/

/-- The table of R149 as a function and as its rows, entry by entry. -/
theorem orderLegal_iff (bp : BusPhase) (i : Instr) : orderLegal bp i = true ↔ i.mnemonic ∈ mayFollow bp := by
  cases bp <;> cases i <;> exact of_decide_eq_true rfl

theorem admitted_of_mayFollow (h : i.mnemonic ∈ mayFollow s.bp) : admitted i s = true := by
  simp [admitted, (orderLegal_iff s.bp i).2 h]

/-- The bus phases in which a start may follow (R149): those of `START` and of the two transactions. -/
theorem admitted_of_startable (h : s.bp ∈ [BusPhase.idle, .tx, .rxLast, .unknown])
    (hi : i.mnemonic ∈ ["START", "WRITE_REGISTER", "READ_REGISTER"]) : admitted i s = true := by
  have hrows : ∀ bp ∈ [BusPhase.idle, .tx, .rxLast, .unknown],
      ["START", "WRITE_REGISTER", "READ_REGISTER"] ⊆ mayFollow bp := by decide
  exact admitted_of_mayFollow (hrows _ h hi)

theorem admitted_of_disabled (hen : s.ctrl.en = false) (hi : i ≠ .init) : admitted i s = true := by
  simp [admitted, hen, hi]

/-- An admitted command answers what its body left. -/
theorem exec_of_admitted (hwf : i.wf = true) (ha : admitted i s = true) :
    exec i s = .next ((commandBody i s).answer i) := by
  rw [exec_eq_issue hwf, issue_admitted ha, afterCommand_eq_answer]

end Sys2Proof.Machine
end

section
/-!
PROOFS. A command whose first phase is never answered (R79, R119, R223), and the conforming environment (R80).
-/

namespace Sys2Proof.Machine

open Safety

variable {s u : State} {a : Config.Answer} {ph : Phase} {i : Instr} {rest : List Config.Answer}

/-! ### The first phase expires -/

/-- A command whose first phase is never answered ends with it. -/
theorem commandBody_never (hph : firstPhase i = some ph) (h : envAnswer ph ((s.begun i).launched ph) = (.never, u)) :
    commandBody i s = { outcome := .timeout, rdata := 0#8, state := ({ u with budget := 0#8 }).expire ph } := by
  cases i with
  | init => cases hph
  | stop =>
    obtain ⟨rfl⟩ := hph
    exact runStop_never h
  | start | sendAddress | writeByte | readByteAck | readByteNack =>
    obtain ⟨rfl⟩ := hph
    exact runPhase_never h _
  | writeRegister dev reg val =>
    obtain ⟨rfl⟩ := hph
    have hstart : startBody (s.setSeq .w0) = _ := runPhase_never h startVerdict
    rw [commandBody, writeRegisterBody, hstart, Ended.andThen_timeout]
  | readRegister dev reg len =>
    obtain ⟨rfl⟩ := hph
    have hstart : startBody (s.clearIdx.setSeq .r0) = _ := runPhase_never h startVerdict
    rw [commandBody, readRegisterBody, hstart, Ended.andThen_timeout]

/-- What a command leaves whose first phase `ph` expires, with the script at `rest` (R119): the phase is launched and left
pending, and nothing else is done to the Core. -/
def State.timedOut (s : State) (i : Instr) (ph : Phase) (rest : List Config.Answer) : State :=
  answered { s with
    data := ph.sends.getD s.data
    ctrl := { done := false, aen := ph == .rx true, sta := ph == .start, sto := ph == .stop, en := s.ctrl.en }
    budget := 0#8
    idx := if i.mnemonic = "READ_REGISTER" then 0#8 else s.idx
    pend := some ph
    bp := .unknown
    lines := linesAtLaunch s
    env := rest
    trace := s.trace ++ [.phase ph .expired] } 0x40000000#32

theorem exec_timedOut (hwf : i.wf = true) (ha : admitted i s = true) (hph : firstPhase i = some ph)
    (h : envAnswer ph ((s.begun i).launched ph) = (.never, { (s.begun i).launched ph with env := rest })) :
    exec i s = .next (s.timedOut i ph rest) := by
  have hword : responseWord (.outcome .timeout) 0#8 0#8 = 0x40000000#32 := by decide
  rw [exec_of_admitted hwf ha, commandBody_never hph h, State.timedOut, ← hword]
  cases i with
  | init => cases hph
  | _ =>
    obtain ⟨rfl⟩ := hph
    rfl

theorem begun_launched_en (s : State) (i : Instr) (ph : Phase) : ((s.begun i).launched ph).ctrl.en = s.ctrl.en := by
  rw [State.launched_en]
  cases i <;> rfl

theorem begun_launched_env (s : State) (i : Instr) (ph : Phase) : ((s.begun i).launched ph).env = s.env := by
  rw [State.launched_env]
  cases i <;> rfl

theorem exists_firstPhase (hi : i ≠ .init) : ∃ ph, firstPhase i = some ph := by
  cases i with
  | init => exact absurd rfl hi
  | _ => exact ⟨_, rfl⟩

/-- An enabled Core whose next answer is not seen (R119). -/
theorem exec_unseen (hwf : i.wf = true) (ha : admitted i s = true) (hph : firstPhase i = some ph)
    (hen : s.ctrl.en = true) (henv : s.env = a :: rest) (hseen : seenAt a = none) :
    exec i s = .next (s.timedOut i ph rest) := by
  refine exec_timedOut hwf ha hph ?_
  rw [envAnswer_enabled ph ((begun_launched_en s i ph).trans hen) ((begun_launched_env s i ph).trans henv),
    resultOf_unseen hseen]

/-- Settles O28: a disabled Core answers `Never` and takes no answer (R79), so the first phase expires. -/
theorem disabledCommandTimesOut : Obligations.DisabledCommandTimesOut := by
  unfold Obligations.DisabledCommandTimesOut
  intro i s hwf hen hi
  obtain ⟨ph, hph⟩ := exists_firstPhase hi
  refine ⟨ph, hph, ?_⟩
  have hans := envAnswer_disabled ph ((begun_launched_en s i ph).trans hen)
  have hlines : linesAtLaunch s = s.lines := by simp [linesAtLaunch, hen]
  rw [exec_timedOut (rest := s.env) hwf (admitted_of_disabled hen hi) hph (by rw [hans, ← begun_launched_env s i ph]),
    State.timedOut, hlines, hen]

/-! ### The conforming environment (R80) -/

/-- Settles O47: a line held low answers `Never` (EA6), so the first phase expires. -/
theorem heldLineTimesOut : Obligations.HeldLineTimesOut := by
  unfold Obligations.HeldLineTimesOut
  intro bus i ph s a rest hwf hen hord hph henv hlow hconf
  have hseen : seenAt a = none := seenAt_of_lineLow hlow hconf
  exact ⟨_, exec_unseen hwf (admitted_of_mayFollow hord) hph hen henv hseen, rfl, rfl, rfl, rfl⟩

/-- Settles O35: EA1 leaves three statuses, two of which are success and one of which is recovered from by a release. -/
theorem conformingStartIsResolved : Obligations.ConformingStartIsResolved := by
  unfold Obligations.ConformingStartIsResolved
  intro bus s a rest hen hord henv hl hconf
  obtain ⟨k, hseen, hcode⟩ := seenAt_of_start hl hconf
  refine ⟨_, exec_of_admitted rfl (admitted_of_startable hord (by decide)), ?_⟩
  rcases hcode with hcode | hcode
  · left
    simp only [commandBody, startBody,
      runPhase_success (s := s.setSeq .prim) (ph := .start) (by simp) hen henv hseen (startVerdict_sent hcode)]
    exact ⟨(by decide : responseWord (.outcome .ok) 0#8 0#8 = 0x00000000#32), rfl⟩
  · right
    have hv : startVerdict (codeOf a) = .failure .release := by rw [hcode]; rfl
    simp only [commandBody, startBody,
      runPhase_failure (s := s.setSeq .prim) (ph := .start) (by simp) hen henv hseen hv, hcode]
    exact ⟨(by decide : responseWord (.outcome (.hardwareStatus 0x38#8)) 0#8 0#8 = 0x80380000#32), rfl,
      by simp [busResolved, Ended.answer, recover]⟩

theorem addrByte_addr (dev : Addr7) (rw : Dir) : (addrByte dev rw).extractLsb' 1 7 = dev := by
  cases rw <;> revert dev <;> decide

theorem addrNackCode_addrByte (dev : Addr7) (rw : Dir) :
    addrNackCode (addrByte dev rw) = if rw = .write then 0x20#8 else 0x48#8 := by
  cases rw <;> revert dev <;> decide

/-- Settles O46: EA6 leaves the not-acknowledged status of the direction, and EA5 clears the stop that follows. -/
theorem absentDeviceIsNotAcknowledged : Obligations.AbsentDeviceIsNotAcknowledged := by
  unfold Obligations.AbsentDeviceIsNotAcknowledged
  intro bus bus2 dev rw s a a2 rest hen hbp henv hl habsent hconf hl2 hfree hconf2
  obtain ⟨k, hseen, hcode⟩ := seenAt_of_absent hl (by rwa [addrByte_addr]) hconf
  obtain ⟨k2, hseen2⟩ := seenAt_of_releasable hl2 hfree hconf2
  rw [addrNackCode_addrByte] at hcode
  have hv : addrVerdict rw (codeOf a) = .failure .stop := by rw [hcode]; cases rw <;> rfl
  have hrun := runPhase_failure (s := s.setSeq .prim) (ph := .addr (addrByte dev rw)) (by simp) hen henv hseen hv
  have hstop := stopPhase_seen (s := (s.setSeq .prim).answeredBy (.addr (addrByte dev rw)) a k (a2 :: rest))
    hen rfl hseen2
  have hadm : admitted (.sendAddress dev rw) s = true :=
    admitted_of_mayFollow (by rw [hbp]; exact List.mem_singleton.2 rfl)
  refine ⟨_, exec_of_admitted rfl hadm, ?_⟩
  simp only [commandBody, sendAddressBody, hrun, recover, hstop]
  refine ⟨?_, rfl, ?_, by simp [busResolved, Ended.answer]⟩
  · rw [hcode]
    cases rw with
    | write => exact (by decide : responseWord (.outcome (.hardwareStatus 0x20#8)) 0#8 0#8 = 0x80200000#32)
    | read => exact (by decide : responseWord (.outcome (.hardwareStatus 0x48#8)) 0#8 0#8 = 0x80480000#32)
  · exact congrArg (Ctrl.mk false false false false) hen

end Sys2Proof.Machine
end

section
/-!
PROOFS. `READ_REGISTER` with every phase answered by its success status (R97, R171, R177): the five phases before the bytes,
the loop of R5 by induction on the answers to its receive phases, the final stop.
-/

namespace Sys2Proof.Machine

open Safety

variable {s t u : State} {a : Config.Answer} {ph : Phase} {rest rx : List Config.Answer} {verdict : Byte → Verdict}
  {bp : BusPhase} {k : Nat} {len : Byte}

/-! ### A phase that ends `Ok` -/

/-- The event of a phase completed by the answer `a`. -/
def answerEvent (ph : Phase) (a : Config.Answer) : Event :=
  .phase ph (.completed (codeOf a) (if ph.isRx then some a.data else none))

/-- `u` is left of `s` by a phase that took the answer `a` from an enabled Core and ended `Ok`. -/
structure EndedOk (ph : Phase) (a : Config.Answer) (rest : List Config.Answer) (s u : State) : Prop where
  en : u.ctrl.en = true
  env : u.env = rest
  status : u.status = codeOf a
  data : ph.isRx = true → u.data = a.data
  idx : u.idx = s.idx
  rxbuf : u.rxbuf = s.rxbuf
  trace : u.trace = s.trace ++ [answerEvent ph a]

theorem runPhase_ok (hp : ph ≠ .stop) (hen : s.ctrl.en = true) (henv : s.env = a :: rest) (hseen : seenAt a ≠ none)
    (hv : verdict (codeOf a) = .success bp) :
    ∃ u, runPhase ph verdict s = { outcome := .ok, rdata := if ph.isRx then a.data else 0#8, state := u } ∧
      EndedOk ph a rest s u := by
  obtain ⟨k, hk⟩ := Option.ne_none_iff_exists'.1 hseen
  refine ⟨_, runPhase_success hp hen henv hk hv, ?_⟩
  cases ph with
  | stop => exact absurd rfl hp
  | rx ack => exact ⟨hen, rfl, rfl, fun _ => rfl, rfl, rfl, rfl⟩
  | _ => exact ⟨hen, rfl, rfl, nofun, rfl, rfl, rfl⟩

theorem EndedOk.storeRx_idx (h : EndedOk ph a rest s u) (d : Byte) (hfit : s.idx.toNat < Config.rxbufSize) :
    (u.storeRx d).idx.toNat = s.idx.toNat + 1 := by
  have hfit' : s.idx.toNat < 255 := hfit
  rw [State.storeRx_idx, h.idx]
  exact BitVec.toNat_add_of_lt (by simp; omega)

/-! ### The loop of R5 -/

/-- The events of receive phases that take the answers `rx`, all but the last acknowledged (R177). -/
def receiveEvents (rx : List Config.Answer) : List Event :=
  rx.mapIdx fun j a => answerEvent (.rx (decide (j + 1 < rx.length))) a

theorem receiveEvents_cons (a : Config.Answer) (rx : List Config.Answer) :
    receiveEvents (a :: rx) = answerEvent (.rx (decide (0 < rx.length))) a :: receiveEvents rx := by
  simp [receiveEvents, List.mapIdx_cons]

theorem receiveEvents_eq {n : Nat} (h : rx.length = n) :
    receiveEvents rx =
      rx.mapIdx fun j a => .phase (.rx (decide (j + 1 < n))) (.completed (codeOf a) (some a.data)) := by
  subst h
  rfl

/-- The answers `rx` are seen, with the success status of a receive that is acknowledged but for the last (R146, R147). -/
structure ReceivesOk (rx : List Config.Answer) : Prop where
  seen : ∀ a ∈ rx, seenAt a ≠ none
  code : ∀ j (h : j < rx.length), codeOf rx[j] = if j + 1 < rx.length then 0x50#8 else 0x58#8

theorem ReceivesOk.head (h : ReceivesOk (a :: rx)) :
    seenAt a ≠ none ∧ codeOf a = if 0 < rx.length then 0x50#8 else 0x58#8 := by
  have hcode := h.code 0 (by simp)
  simp only [List.getElem_cons_zero, List.length_cons, Nat.add_lt_add_iff_right] at hcode
  exact ⟨h.seen a (by simp), hcode⟩

theorem ReceivesOk.tail (h : ReceivesOk (a :: rx)) : ReceivesOk rx := by
  refine ⟨fun b hb => h.seen b (by simp [hb]), fun j hj => ?_⟩
  have hcode := h.code (j + 1) (by simpa using hj)
  simp only [List.getElem_cons_succ, List.length_cons, Nat.add_lt_add_iff_right] at hcode
  exact hcode

theorem ReceivesOk.last (h : ReceivesOk rx) (hne : rx ≠ []) : codeOf (rx.getLast hne) = 0x58#8 := by
  have hpos : 0 < rx.length := List.length_pos_iff.2 hne
  rw [List.getLast_eq_getElem]
  exact (h.code (rx.length - 1) (by omega)).trans (if_neg (by omega))

/-- `t` is left of `s` by receiving and storing the bytes of the answers `rx`, with the script at `rest`. -/
structure Received (rx rest : List Config.Answer) (s t : State) : Prop where
  en : t.ctrl.en = true
  env : t.env = rest
  status : t.status = (rx.map codeOf).getLast?.getD s.status
  data : t.data = (rx.map (·.data)).getLast?.getD s.data
  idx : t.idx.toNat = s.idx.toNat + rx.length
  stored : ∀ j (h : j < rx.length), rxbufRead t.rxbuf (s.idx + BitVec.ofNat 8 j) = some rx[j].data
  kept : ∀ j : Byte, j.toNat < s.idx.toNat ∨ s.idx.toNat + rx.length ≤ j.toNat →
    rxbufRead t.rxbuf j = rxbufRead s.rxbuf j
  trace : t.trace = s.trace ++ receiveEvents rx

theorem Received.refl (hen : s.ctrl.en = true) (henv : s.env = rest) : Received [] rest s s :=
  ⟨hen, henv, rfl, rfl, rfl, nofun, fun _ _ => rfl, by simp [receiveEvents]⟩

/-- One byte received and stored, then the others. -/
theorem Received.cons (h1 : EndedOk (.rx (decide (0 < rx.length))) a (rx ++ rest) s u)
    (h : Received rx rest (u.storeRx a.data) t) (hfit : s.idx.toNat + rx.length < Config.rxbufSize) :
    Received (a :: rx) rest s t := by
  have hidx := h1.storeRx_idx a.data (by omega)
  have hkept : s.idx.toNat < (u.storeRx a.data).idx.toNat := by omega
  have hbuf : (u.storeRx a.data).rxbuf = rxbufWrite s.rxbuf s.idx a.data := by
    rw [State.storeRx_rxbuf, h1.idx, h1.rxbuf]
  exact {
    en := h.en
    env := h.env
    status := by
      rw [h.status, State.storeRx_status, h1.status]
      simp [List.getLast?_cons]
    data := by
      rw [h.data, State.storeRx_data, h1.data rfl]
      simp [List.getLast?_cons]
    idx := by
      rw [h.idx, hidx, List.length_cons]
      omega
    stored := by
      intro j hj
      cases j with
      | zero =>
        have hsize : s.idx.toNat < Config.rxbufSize := by omega
        rw [h.kept _ (.inl (by simpa using hkept)), hbuf]
        simpa using rxbufRead_write_same _ _ _ hsize
      | succ j =>
        have hnext := h.stored j (by simpa using hj)
        rwa [State.storeRx_idx, h1.idx, BitVec.add_assoc, BitVec.add_comm 1#8, ← BitVec.ofNat_add] at hnext
    kept := by
      intro j hj
      rw [List.length_cons] at hj
      rw [h.kept j (by omega), hbuf, rxbufRead_write_other]
      rintro rfl
      omega
    trace := by
      rw [h.trace, State.storeRx_trace, h1.trace, receiveEvents_cons, List.append_assoc, List.singleton_append] }

theorem rxAcks_eq (i len : Byte) (n : Nat) (h : i.toNat + (n + 1) = len.toNat) : rxAcks i len = decide (0 < n) := by
  simp only [rxAcks, decide_eq_decide]
  omega

/-- A receive step of R5 whose answer has the success status of its place (R177). -/
theorem receiveBody_ok {n : Nat} (hen : s.ctrl.en = true) (henv : s.env = a :: rest)
    (hn : s.idx.toNat + (n + 1) = len.toNat) (hseen : seenAt a ≠ none)
    (hcode : codeOf a = if 0 < n then 0x50#8 else 0x58#8) :
    ∃ u, receiveBody len s = { outcome := .ok, rdata := a.data, state := u } ∧
      EndedOk (.rx (decide (0 < n))) a rest s u := by
  rw [receiveBody, rxAcks_eq _ _ _ hn]
  by_cases hmore : 0 < n
  · have hv : rxAckVerdict (codeOf a) = .success .rx := by rw [hcode, if_pos hmore]; rfl
    simpa [hmore, readByteAckBody, Phase.isRx] using runPhase_ok (ph := .rx true) (by simp) hen henv hseen hv
  · have hv : rxNackVerdict (codeOf a) = .success .rxLast := by rw [hcode, if_neg hmore]; rfl
    simpa [hmore, readByteNackBody, Phase.isRx] using runPhase_ok (ph := .rx false) (by simp) hen henv hseen hv

/-- The loop of R5, with as many answers as bytes still to come. -/
theorem receiveLoop_ok (hen : s.ctrl.en = true) (henv : s.env = rx ++ rest)
    (hlen : s.idx.toNat + rx.length = len.toNat) (hrx : ReceivesOk rx) :
    ∃ t, receiveLoop len rx.length s = { outcome := .ok, rdata := 0#8, state := t } ∧ Received rx rest s t := by
  induction rx generalizing s with
  | nil => exact ⟨s, rfl, .refl hen henv⟩
  | cons a rx ih =>
    rw [List.length_cons] at hlen
    obtain ⟨hseen, hcode⟩ := hrx.head
    obtain ⟨u, hbody, hu⟩ := receiveBody_ok hen henv hlen hseen hcode
    have hfit : s.idx.toNat + rx.length < Config.rxbufSize := by
      have := len.isLt
      change s.idx.toNat + rx.length < 255
      omega
    have hidx : (u.storeRx a.data).idx.toNat = s.idx.toNat + 1 := hu.storeRx_idx a.data (by omega)
    obtain ⟨t, hloop, ht⟩ := ih (s := u.storeRx a.data) hu.en hu.env (by omega) hrx.tail
    refine ⟨t, ?_, .cons hu ht hfit⟩
    rw [List.length_cons, receiveLoop_succ (by omega), hbody, Ended.andThen_ok, hloop]

/-! ### The whole read -/

/-- The events of the five phases of R97 before the bytes. -/
def selectEvents (dev : Addr7) (reg : Byte) (a0 a1 a2 a3 a4 : Config.Answer) : List Event :=
  [answerEvent .start a0, answerEvent (.addr (addrByte dev .write)) a1, answerEvent (.tx reg) a2,
    answerEvent .start a3, answerEvent (.addr (addrByte dev .read)) a4]

theorem selectEvents_eq {a0 a1 a2 a3 a4 : Config.Answer} {dev : Addr7} {reg : Byte} (h1 : codeOf a1 = 0x18#8)
    (h2 : codeOf a2 = 0x28#8) (h4 : codeOf a4 = 0x40#8) :
    selectEvents dev reg a0 a1 a2 a3 a4 = [.phase .start (.completed (codeOf a0) none),
      .phase (.addr (dev ++ 0#1)) (.completed 0x18#8 none), .phase (.tx reg) (.completed 0x28#8 none),
      .phase .start (.completed (codeOf a3) none), .phase (.addr (dev ++ 1#1)) (.completed 0x40#8 none)] := by
  rw [← h1, ← h2, ← h4]
  rfl

/-- The response word of `Ok` with a count (R92, R93). -/
theorem responseWord_ok_count (len : Byte) : responseWord (.outcome .ok) len 0#8 = 0#16 ++ len ++ 0#8 :=
  congrArg (fun high : BitVec 16 => high ++ len ++ 0#8) (by decide : 0#2 ++ 0#6 ++ 0#8 = 0#16)

/-- `u` is left of `s` by the five phases, IDX cleared before them and the script at `rest` after them. -/
structure Selected (events : List Event) (rest : List Config.Answer) (s u : State) : Prop where
  en : u.ctrl.en = true
  env : u.env = rest
  idx : u.idx = 0#8
  rxbuf : u.rxbuf = s.rxbuf
  trace : u.trace = s.trace ++ events

/-- The steps R0 to R4 answered by their success statuses, and what is left of the read. -/
theorem readRegisterBody_selects {a0 a1 a2 a3 a4 : Config.Answer} (dev : Addr7) (reg len : Byte)
    (hen : s.ctrl.en = true) (henv : s.env = a0 :: a1 :: a2 :: a3 :: a4 :: rest)
    (hseen : ∀ a ∈ [a0, a1, a2, a3, a4], seenAt a ≠ none)
    (h0 : codeOf a0 = 0x08#8 ∨ codeOf a0 = 0x10#8) (h1 : codeOf a1 = 0x18#8) (h2 : codeOf a2 = 0x28#8)
    (h3 : codeOf a3 = 0x08#8 ∨ codeOf a3 = 0x10#8) (h4 : codeOf a4 = 0x40#8) :
    ∃ u, readRegisterBody dev reg len s =
        (receiveLoop len len.toNat (u.setSeq .r5)).andThen (fun s => stopBody (s.setSeq .r6)) ∧
      Selected (selectEvents dev reg a0 a1 a2 a3 a4) rest s u := by
  have hv1 : addrVerdict .write (codeOf a1) = .success .tx := by rw [h1]; rfl
  have hv2 : txVerdict (codeOf a2) = .success .tx := by rw [h2]; rfl
  have hv4 : addrVerdict .read (codeOf a4) = .success .rx := by rw [h4]; rfl
  obtain ⟨u0, r0, e0⟩ := runPhase_ok (s := s.clearIdx.setSeq .r0) (ph := .start) (by simp) hen henv
    (hseen a0 (by simp)) (startVerdict_sent h0)
  obtain ⟨u1, r1, e1⟩ := runPhase_ok (s := u0.setSeq .r1) (ph := .addr (addrByte dev .write)) (by simp) e0.en e0.env
    (hseen a1 (by simp)) hv1
  obtain ⟨u2, r2, e2⟩ := runPhase_ok (s := u1.setSeq .r2) (ph := .tx reg) (by simp) e1.en e1.env
    (hseen a2 (by simp)) hv2
  obtain ⟨u3, r3, e3⟩ := runPhase_ok (s := u2.setSeq .r3) (ph := .start) (by simp) e2.en e2.env
    (hseen a3 (by simp)) (startVerdict_sent h3)
  obtain ⟨u4, r4, e4⟩ := runPhase_ok (s := u3.setSeq .r4) (ph := .addr (addrByte dev .read)) (by simp) e3.en e3.env
    (hseen a4 (by simp)) hv4
  refine ⟨u4, ?_, e4.en, e4.env, ?_, ?_, ?_⟩
  · simp only [readRegisterBody, startBody, sendAddressBody, writeByteBody, r0, r1, r2, r3, r4, Ended.andThen_ok]
  · simp [e4.idx, e3.idx, e2.idx, e1.idx, e0.idx]
  · simp [e4.rxbuf, e3.rxbuf, e2.rxbuf, e1.rxbuf, e0.rxbuf]
  · simp [e4.trace, e3.trace, e2.trace, e1.trace, e0.trace, selectEvents]

/-- Settles O22: the five phases, the loop of R5, and the stop (R97). -/
theorem readRegisterDeliversBytes : Obligations.ReadRegisterDeliversBytes := by
  unfold Obligations.ReadRegisterDeliversBytes
  intro dev reg len s a0 a1 a2 a3 a4 a5 rx rest k hen hord hlen henv hrx hseen hstop h0 h1 h2 h3 h4 hcodes
  have hwf : (Instr.readRegister dev reg len).wf = true := by simpa [Instr.wf, lenOk] using hlen
  have hne : rx ≠ [] := by
    rintro rfl
    exact hlen (BitVec.eq_of_toNat_eq hrx.symm)
  have hok : ReceivesOk rx := ⟨fun a ha => hseen a (by simp [ha]), fun j hj => (hcodes j hj).trans (by rw [hrx])⟩
  obtain ⟨u, hbody, hu⟩ := readRegisterBody_selects dev reg len hen henv
    (fun a ha => hseen a (List.mem_append_left rx ha)) h0 h1 h2 h3 h4
  obtain ⟨t, hloop, ht⟩ := receiveLoop_ok (s := u.setSeq .r5) (len := len) hu.en hu.env (by simp [hu.idx, hrx]) hok
  have hidx : t.idx = len := BitVec.eq_of_toNat_eq (by simp [ht.idx, hu.idx, hrx])
  rw [← hrx, hloop, Ended.andThen_ok, stopBody, runStop, stopPhase_seen (s := t.setSeq .r6) ht.en ht.env hstop] at hbody
  refine ⟨_, exec_of_admitted hwf (admitted_of_startable hord (by simp [Instr.mnemonic])), ?_⟩
  rw [commandBody, hbody]
  refine ⟨?_, hidx, rfl, congrArg (Ctrl.mk false false false false) ht.en, rfl, ?_, rfl, rfl, ?_, ?_, ?_, ?_⟩
  · exact (congrArg (responseWord (.outcome .ok) · 0#8) hidx).trans (responseWord_ok_count len)
  · exact ht.status.trans (by simp [List.getLast?_eq_some_getLast hne, hok.last hne])
  · intro h
    exact ht.data.trans (by simp [List.getLast?_eq_some_getLast h])
  · intro j hj
    exact (congrArg (rxbufRead t.rxbuf) (by simp [hu.idx])).trans (ht.stored j hj)
  · intro j hj
    have hj' : len.toNat ≤ j.toNat := hj
    exact (ht.kept j (.inr (by simpa [hu.idx, hrx] using hj'))).trans (congrArg (rxbufRead · j) hu.rxbuf)
  · have htrace := ht.trace.trans (congrArg (· ++ receiveEvents rx) hu.trace)
    rw [selectEvents_eq h1 h2 h4, receiveEvents_eq hrx] at htrace
    exact congrArg (· ++ [.phase .stop .stopCleared]) htrace

end Sys2Proof.Machine
end

section
/-!
PROOFS. The encoding table (R85 to R91): the decoder after the encoder and the encoder after the decoder, the rows of
the opcode map as conditions on the fields of a word, and the order of the three checks.
-/

namespace Sys2Proof

variable {w : Word} {i : Instr} {f : Fields} {op : BitVec 4} {r : OpcodeRow}

/-! ### The decoder after the encoder, and the encoder after the decoder -/

/-- The three checks let the fields of a well-formed command through, and its operands are read back (R86, R88). -/
theorem decodeFields_fieldsOf (h : i.wf = true) : decodeFields (fieldsOf i) = .ok i := by
  cases i with
  | readRegister dev reg len =>
    have hlen : lenOk len = true := h
    simp [decodeFields, fieldsOf, opOf, opDefined, unusedClear, usesRw, usesDev, usesReg, usesVal, assemble, hlen]
  | init | start | stop | readByteAck | readByteNack => rfl
  | sendAddress | writeByte | writeRegister =>
    simp [decodeFields, fieldsOf, opOf, opDefined, unusedClear, usesRw, usesDev, usesReg, usesVal, assemble]

theorem decode_encode (h : i.wf = true) : decode (encode i) = .ok i := by
  rw [decode, encode, Fields.split_join, decodeFields_fieldsOf h]

theorem encode_of_decode (h : decode w = .ok i) : encode i = w := by
  rw [encode, ← split_of_decode h, Fields.join_split]

/-- Settles O1: the fields of the word are those of the command, and they pass the checks. -/
theorem decodeOfEncode : Obligations.DecodeOfEncode := by
  unfold Obligations.DecodeOfEncode
  exact fun _ => decode_encode

/-- Settles O2: a word that decodes has the fields of its command. -/
theorem encodeOfDecode : Obligations.EncodeOfDecode := by
  unfold Obligations.EncodeOfDecode
  exact fun _ _ h => ⟨encode_of_decode h, wf_of_decode h⟩

/-- Settles O5: each word is the encoding of its command. -/
theorem sampleWordsDecode : Obligations.SampleWordsDecode := by
  unfold Obligations.SampleWordsDecode
  exact ⟨decode_encode (i := .init) rfl, decode_encode (i := .sendAddress 0x62 .read) rfl,
    decode_encode (i := .writeByte 0x8F) rfl, decode_encode (i := .writeRegister 0x62 0x00 0x04) rfl,
    decode_encode (i := .readRegister 0x62 0x8F 2) rfl⟩

/-! ### The rows of the opcode map (R87) -/

/-- The conjunction of two sets of fields, field by field. -/
def Fields.and (f g : Fields) : Fields :=
  { op := f.op &&& g.op
    rsvA := f.rsvA &&& g.rsvA
    rw := f.rw &&& g.rw
    rsvB := f.rsvB &&& g.rsvB
    dev := f.dev &&& g.dev
    reg := f.reg &&& g.reg
    val := f.val &&& g.val }

theorem Fields.join_and (f g : Fields) : f.join &&& g.join = (f.and g).join := by
  simp only [Fields.join, Fields.and, ← BitVec.and_append]

theorem Fields.join_inj {f g : Fields} : f.join = g.join ↔ f = g :=
  ⟨fun h => by rw [← Fields.split_join f, h, Fields.split_join], congrArg _⟩

/-- A word under a mask, as its fields under the mask's fields. -/
theorem and_join_eq_join (w : Word) (f g : Fields) : w &&& f.join = g.join ↔ (Fields.split w).and f = g := by
  rw [← Fields.join_inj, ← Fields.join_and, Fields.join_split]

/-- The mask of the row of `op`: every bit but those of the fields the command uses (R86, R87). -/
def maskFields (op : BitVec 4) : Fields :=
  { op := BitVec.allOnes 4
    rsvA := BitVec.allOnes 3
    rw := if usesRw op then 0 else BitVec.allOnes 1
    rsvB := BitVec.allOnes 1
    dev := if usesDev op then 0 else BitVec.allOnes 7
    reg := if usesReg op then 0 else BitVec.allOnes 8
    val := if usesVal op then 0 else BitVec.allOnes 8 }

/-- The match of the row of `op`: OP alone (R87). -/
def matchFields (op : BitVec 4) : Fields :=
  { op := op, rsvA := 0, rw := 0, rsvB := 0, dev := 0, reg := 0, val := 0 }

/-- The row of the opcode map for a value of OP. -/
def rowOf (op : BitVec 4) : OpcodeRow := { mtch := (matchFields op).join, mask := (maskFields op).join }

theorem opcodeRow_eq_rowOf (i : Instr) : opcodeRow i = rowOf (opOf i) := by
  cases i <;> simp only [opcodeRow, opOf] <;> decide

theorem mem_opcodeMap : r ∈ opcodeMap ↔ ∃ op, opDefined op = true ∧ r = rowOf op := by
  have hmap : opcodeMap = [1#4, 2#4, 3#4, 4#4, 5#4, 6#4, 7#4, 8#4, 9#4].map rowOf := by decide
  have hops : ∀ op, opDefined op = true ↔ op ∈ [1#4, 2#4, 3#4, 4#4, 5#4, 6#4, 7#4, 8#4, 9#4] := by decide
  simp only [hmap, hops, List.mem_map, eq_comm]

theorem rowOf_mtch_inj {op' : BitVec 4} : (rowOf op).mtch = (rowOf op').mtch ↔ op = op' :=
  ⟨fun h => congrArg Fields.op (Fields.join_inj.1 h), fun h => h ▸ rfl⟩

theorem rowOf_inj {op' : BitVec 4} : rowOf op = rowOf op' ↔ op = op' :=
  ⟨fun h => rowOf_mtch_inj.1 (congrArg OpcodeRow.mtch h), congrArg _⟩

/-- A field under its part of a mask. -/
theorem and_unlessUsed_eq_zero {n : Nat} (x : BitVec n) (used : Bool) :
    x &&& (if used then 0 else BitVec.allOnes n) = 0 ↔ (used || x == 0) = true := by
  cases used <;> simp

/-- A word matches a row exactly when it has the row's OP and every other bit the command does not use is 0 (R86). -/
theorem row_matches_iff (w : Word) (op : BitVec 4) :
    w &&& (rowOf op).mask = (rowOf op).mtch ↔ (Fields.split w).op = op ∧ unusedClear (Fields.split w) = true := by
  rw [rowOf, and_join_eq_join]
  generalize Fields.split w = f
  simp only [Fields.and, maskFields, matchFields, Fields.mk.injEq, BitVec.and_allOnes, and_unlessUsed_eq_zero,
    unusedClear, Bool.and_eq_true, beq_iff_eq]
  constructor
  · rintro ⟨rfl, hA, hrw, hB, hdev, hreg, hval⟩
    exact ⟨rfl, ⟨⟨⟨⟨hA, hB⟩, hrw⟩, hdev⟩, hreg⟩, hval⟩
  · rintro ⟨rfl, ⟨⟨⟨⟨hA, hB⟩, hrw⟩, hdev⟩, hreg⟩, hval⟩
    exact ⟨rfl, hA, hrw, hB, hdev, hreg, hval⟩

/-- A word that decodes has the OP of its command. -/
theorem op_of_decode (h : decode w = .ok i) : (Fields.split w).op = opOf i := by
  rw [split_of_decode h]
  cases i <;> rfl

/-- A word is a command with the OP `op` exactly when it passes the three checks (R89). -/
theorem decode_ok_with_op_iff (w : Word) (hop : opDefined op = true) :
    (∃ i, decode w = .ok i ∧ opOf i = op) ↔
      ((Fields.split w).op = op ∧ unusedClear (Fields.split w) = true) ∧
        (op = 9#4 → lenOk (Fields.split w).val = true) := by
  constructor
  · rintro ⟨i, h, rfl⟩
    obtain ⟨-, hclear, hlen, -⟩ := decodeFields_ok h
    exact ⟨⟨op_of_decode h, hclear⟩, op_of_decode h ▸ hlen⟩
  · rintro ⟨⟨rfl, hclear⟩, hlen⟩
    have hdec : decode w = .ok (assemble (Fields.split w)) := by
      simp_all [decode, decodeFields]
    exact ⟨_, hdec, (op_of_decode hdec).symm⟩

/-- Settles O3: the row of an OP, as a condition on the fields. -/
theorem opcodeMapIsExact : Obligations.OpcodeMapIsExact := by
  unfold Obligations.OpcodeMapIsExact
  intro w r hr
  obtain ⟨op, hop, rfl⟩ := mem_opcodeMap.1 hr
  have hread : (rowOf op).mtch = 0x90000000#32 ↔ op = 9#4 :=
    (by decide : (rowOf 9#4).mtch = 0x90000000#32) ▸ rowOf_mtch_inj
  have hlen : lenOk (Fields.split w).val = true ↔ w.extractLsb' 0 8 ≠ 0#8 := bne_iff_ne
  simp only [opcodeRow_eq_rowOf, rowOf_inj, decode_ok_with_op_iff w hop, row_matches_iff, hread, hlen]

/-! ### The order of the checks (R89) -/

theorem opDefined_eq_false_iff : ∀ op : BitVec 4, opDefined op = false ↔ op = 0x0#4 ∨ 0xA#4 ≤ op := by
  decide

theorem decode_undefinedOp (h : opDefined (Fields.split w).op = false) : decode w = .error .undefinedOp := by
  simp [decode, decodeFields, h]

theorem decode_unusedField (hop : opDefined (Fields.split w).op = true) (h : unusedClear (Fields.split w) = false) :
    decode w = .error .unusedField := by
  simp [decode, decodeFields, hop, h]

theorem decode_zeroLength (hop : (Fields.split w).op = 9#4) (hclear : unusedClear (Fields.split w) = true)
    (h : (Fields.split w).val = 0#8) : decode w = .error .zeroLength := by
  simp [decode, decodeFields, hop, hclear, h, lenOk, opDefined]

/-- The bits of OP select the row. -/
theorem and_opMask_eq_iff (w : Word) (op : BitVec 4) :
    w &&& 0xF0000000#32 = (rowOf op).mtch ↔ (Fields.split w).op = op := by
  have hmask : 0xF0000000#32 = (matchFields (BitVec.allOnes 4)).join := by decide
  rw [hmask, rowOf, and_join_eq_join]
  simp only [Fields.and, matchFields, BitVec.and_allOnes]
  simp

/-- No row matches a word with a defined OP exactly when the second check fails. -/
theorem no_row_matches_iff (hop : opDefined (Fields.split w).op = true) :
    (∀ r ∈ opcodeMap, w &&& 0xF0000000#32 = r.mtch → w &&& r.mask ≠ r.mtch) ↔
      unusedClear (Fields.split w) = false := by
  constructor
  · intro h
    have hrow := h _ (mem_opcodeMap.2 ⟨_, hop, rfl⟩) ((and_opMask_eq_iff w _).2 rfl)
    simpa [row_matches_iff] using hrow
  · intro h r hr _
    obtain ⟨op, -, rfl⟩ := mem_opcodeMap.1 hr
    simp [row_matches_iff, h]

/-- Settles O4: each check in terms of the fields, the ones before it passed. -/
theorem decodeChecksInOrder : Obligations.DecodeChecksInOrder := by
  unfold Obligations.DecodeChecksInOrder
  intro w op bad undefinedOp
  have hundef : undefinedOp ↔ opDefined (Fields.split w).op = false := (opDefined_eq_false_iff op).symm
  have hbad (hop : ¬undefinedOp) : bad ↔ unusedClear (Fields.split w) = false :=
    no_row_matches_iff (by simpa [hundef] using hop)
  refine ⟨fun h => ⟨_, decode_undefinedOp (hundef.1 h), rfl⟩, fun hop h => ?_, fun hop h h9 h0 => ?_,
    fun hop h hlen => ?_⟩
  · exact ⟨_, decode_unusedField (by simpa [hundef] using hop) ((hbad hop).1 h), rfl⟩
  · exact ⟨_, decode_zeroLength h9 (by simpa [hbad hop] using h) h0, rfl⟩
  · have hop' : opDefined (Fields.split w).op = true := by simpa [hundef] using hop
    obtain ⟨i, hdec, -⟩ := (decode_ok_with_op_iff w hop').2
      ⟨⟨rfl, by simpa [hbad hop] using h⟩, fun h9 => bne_iff_ne.2 (hlen h9)⟩
    exact ⟨i, hdec⟩

end Sys2Proof
end

section
/-!
PROOFS. The address byte (R90), and the answer to an illegal word (R88, R140, R196).
-/

namespace Sys2Proof.Machine

/-- Settles O6: the address byte is put together from the two fields (R90). -/
theorem addressByteFields : Obligations.AddressByteFields := by
  unfold Obligations.AddressByteFields
  refine fun dev rw => ⟨addrByte_addr dev rw, ?_⟩
  cases rw <;> revert dev <;> decide

theorem runWord_illegal {w : Word} {r : Reject} (h : decode w = .error r) (s : State) :
    runWord w s = .next ((s.acceptWord w).refuseWord r) := by
  rw [runWord, h]

/-- Settles O9: the word is delivered, does not decode, and is answered; SEQ and the control state are already idle. -/
theorem illegalWordIsRefused : Obligations.IllegalWordIsRefused := by
  unfold Obligations.IllegalWordIsRefused
  intro s w r rest hbusy hseq hctl hin hdec
  calc step s = deliver (.command w) (s.beginStep rest) := step_cons hin
    _ = runWord w (s.beginStep rest) := if_neg (by simp [hbusy])
    _ = .next (((s.beginStep rest).acceptWord w).refuseWord r) := runWord_illegal hdec _
    _ = _ := by simp only [State.refuseWord, State.respond, ← hseq, ← hctl]; rfl

end Sys2Proof.Machine
end

section
/-!
PROOFS. `WRITE_REGISTER` with every phase answered by its success status (R96, R170): the four phases and the stop, one
after another.
-/

namespace Sys2Proof.Machine

open Safety

/-- The events of the five phases of R96. -/
def writeEvents (dev : Addr7) (reg val : Byte) (a0 a1 a2 a3 : Config.Answer) : List Event :=
  [answerEvent .start a0, answerEvent (.addr (addrByte dev .write)) a1, answerEvent (.tx reg) a2,
    answerEvent (.tx val) a3, .phase .stop .stopCleared]

theorem writeEvents_eq {a0 a1 a2 a3 : Config.Answer} {dev : Addr7} {reg val : Byte} (h1 : codeOf a1 = 0x18#8)
    (h2 : codeOf a2 = 0x28#8) (h3 : codeOf a3 = 0x28#8) :
    writeEvents dev reg val a0 a1 a2 a3 = [.phase .start (.completed (codeOf a0) none),
      .phase (.addr (dev ++ 0#1)) (.completed 0x18#8 none), .phase (.tx reg) (.completed 0x28#8 none),
      .phase (.tx val) (.completed 0x28#8 none), .phase .stop .stopCleared] := by
  simp only [writeEvents, answerEvent, h1, h2, h3]
  rfl

/-- The body of `WRITE_REGISTER`, its five phases answered by the first five answers of the script. -/
theorem writeRegisterBody_ok {s : State} {a0 a1 a2 a3 a4 : Config.Answer} {rest : List Config.Answer} {k : Nat}
    (dev : Addr7) (reg val : Byte) (hen : s.ctrl.en = true) (henv : s.env = a0 :: a1 :: a2 :: a3 :: a4 :: rest)
    (hseen : ∀ a ∈ [a0, a1, a2, a3], seenAt a ≠ none) (hstop : seenAt a4 = some k)
    (h0 : codeOf a0 = 0x08#8 ∨ codeOf a0 = 0x10#8) (h1 : codeOf a1 = 0x18#8) (h2 : codeOf a2 = 0x28#8)
    (h3 : codeOf a3 = 0x28#8) :
    writeRegisterBody dev reg val s = { outcome := .ok, rdata := 0#8, state := { s with
      ctrl := { done := false, aen := false, sta := false, sto := false, en := s.ctrl.en }
      status := codeOf a3
      data := val
      budget := budgetAfter k
      pend := none
      seq := .w4
      bp := .idle
      lines := .released
      env := rest
      trace := s.trace ++ writeEvents dev reg val a0 a1 a2 a3 } } := by
  simp only [List.forall_mem_cons, ne_eq, Option.ne_none_iff_exists'] at hseen
  obtain ⟨⟨k0, hs0⟩, ⟨k1, hs1⟩, ⟨k2, hs2⟩, ⟨k3, hs3⟩, -⟩ := hseen
  have hv1 : addrVerdict .write (codeOf a1) = .success .tx := by rw [h1]; rfl
  have hv2 : txVerdict (codeOf a2) = .success .tx := by rw [h2]; rfl
  have hv3 : txVerdict (codeOf a3) = .success .tx := by rw [h3]; rfl
  simp only [writeRegisterBody, startBody, sendAddressBody, writeByteBody, stopBody, runStop]
  rw [runPhase_success (ph := .start) (by simp) (by exact hen) (by exact henv) hs0 (startVerdict_sent h0),
    Ended.andThen_ok,
    runPhase_success (ph := .addr (addrByte dev .write)) (by simp) (by exact hen) rfl hs1 hv1, Ended.andThen_ok,
    runPhase_success (ph := .tx reg) (by simp) (by exact hen) rfl hs2 hv2, Ended.andThen_ok,
    runPhase_success (ph := .tx val) (by simp) (by exact hen) rfl hs3 hv3, Ended.andThen_ok,
    stopPhase_seen (by exact hen) rfl hstop]
  have happend (l : List Event) : l ++ writeEvents dev reg val a0 a1 a2 a3 = l ++ [answerEvent .start a0]
      ++ [answerEvent (.addr (addrByte dev .write)) a1] ++ [answerEvent (.tx reg) a2] ++ [answerEvent (.tx val) a3]
      ++ [.phase .stop .stopCleared] := by simp [writeEvents]
  rw [happend]
  rfl

/-- Settles O21: the body ends `Ok`, and its events are those of the frame of R96. -/
theorem writeRegisterSucceeds : Obligations.WriteRegisterSucceeds := by
  unfold Obligations.WriteRegisterSucceeds
  intro dev reg val s a0 a1 a2 a3 a4 rest k hen hord henv hseen hstop h0 h1 h2 h3
  refine ⟨.released, ?_⟩
  have hword : responseWord (.outcome .ok) 0#8 0#8 = 0x00000000#32 := by decide
  rw [exec_of_admitted rfl (admitted_of_startable hord (by simp [Instr.mnemonic])), commandBody,
    writeRegisterBody_ok dev reg val hen henv hseen hstop h0 h1 h2 h3, writeEvents_eq h1 h2 h3, hen,
    h3, ← hword]
  rfl

end Sys2Proof.Machine
end

section
/-!
PROOFS. A transaction is its frame of primitive commands (R96, R97, R170 to R174): a phase does the same whatever the
registers on the host's side hold, and each primitive command of the frame is admitted after the one before it ended
`Ok`.
-/

namespace Sys2Proof.Machine

open Safety

variable {s t : State} {i : Instr} {e : Ended} {b : State → Ended} {bp : BusPhase} {rest : List Instr}

/-! ### The registers on the host's side -/

/-- The registers that no phase reads or writes: those of the response (R140), SEQ, and those of the receive buffer. -/
structure HostSide where
  rsp : Word
  rspValid : Bool
  busy : Bool
  seq : Seq
  ctl : Control
  rxbuf : Vector Byte Config.rxbufSize
  idx : Byte

def State.host (s : State) : HostSide :=
  { rsp := s.rsp, rspValid := s.rspValid, busy := s.busy, seq := s.seq, ctl := s.ctl, rxbuf := s.rxbuf, idx := s.idx }

def State.withHost (s : State) (h : HostSide) : State :=
  { s with rsp := h.rsp, rspValid := h.rspValid, busy := h.busy, seq := h.seq, ctl := h.ctl, rxbuf := h.rxbuf
           idx := h.idx }

def Ended.withHost (e : Ended) (h : HostSide) : Ended := { e with state := e.state.withHost h }

theorem State.withHost_host (s : State) : s.withHost s.host = s := rfl

theorem takeAnswer_withHost (s : State) (h : HostSide) :
    takeAnswer (s.withHost h) = ((takeAnswer s).1, (takeAnswer s).2.withHost h) := by
  cases henv : s.env <;> simp [takeAnswer, State.withHost, henv]

theorem envAnswer_withHost (ph : Phase) (s : State) (h : HostSide) :
    envAnswer ph (s.withHost h) = ((envAnswer ph s).1, (envAnswer ph s).2.withHost h) := by
  have hen : (s.withHost h).ctrl.en = s.ctrl.en := rfl
  unfold envAnswer
  rw [takeAnswer_withHost, hen]
  split <;> rfl

theorem await_withHost (ph : Phase) (s : State) (h : HostSide) :
    await ph (s.withHost h) = ((await ph s).1, (await ph s).2.withHost h) := by
  unfold await
  rw [envAnswer_withHost]
  obtain ⟨r, u⟩ := envAnswer ph s
  cases r <;> rfl

theorem launched_withHost (ph : Phase) (s : State) (h : HostSide) :
    (s.withHost h).launched ph = (s.launched ph).withHost h := by
  cases ph <;> rfl

theorem donePhase_withHost (ph : Phase) (s : State) (h : HostSide) :
    donePhase ph (s.withHost h) = ((donePhase ph s).1, (donePhase ph s).2.withHost h) := by
  have hawait := await_withHost ph (s.launched ph) h
  rw [← launched_withHost] at hawait
  simp only [State.launched] at hawait
  unfold donePhase
  rw [hawait]
  obtain ⟨r, u⟩ := await ph ((s.loadData ph).launch ph)
  cases r <;> rfl

theorem stopPhase_withHost (s : State) (h : HostSide) :
    stopPhase (s.withHost h) = ((stopPhase s).1, (stopPhase s).2.withHost h) := by
  have hawait := await_withHost .stop (s.launch .stop) h
  have hlaunch : (s.withHost h).launch .stop = (s.launch .stop).withHost h := rfl
  unfold stopPhase
  rw [hlaunch, hawait]
  obtain ⟨r, u⟩ := await .stop (s.launch .stop)
  cases r <;> rfl

theorem recover_withHost (r : Recovery) (s : State) (h : HostSide) :
    recover r (s.withHost h) = (recover r s).withHost h := by
  cases r with
  | stop => simp only [recover, stopPhase_withHost]
  | leave | release => rfl

theorem runPhase_withHost (ph : Phase) (verdict : Byte → Verdict) (s : State) (h : HostSide) :
    runPhase ph verdict (s.withHost h) = (runPhase ph verdict s).withHost h := by
  unfold runPhase
  rw [donePhase_withHost]
  obtain ⟨r, u⟩ := donePhase ph s
  cases r with
  | expired => rfl
  | code c =>
    cases hv : verdict c with
    | success bp => simp only [settle, hv]; rfl
    | failure r => simp only [settle, hv, recover_withHost]; rfl

theorem runStop_withHost (s : State) (h : HostSide) : runStop (s.withHost h) = (runStop s).withHost h := by
  simp only [runStop, stopPhase_withHost]
  rfl

/-! ### The primitive commands -/

/-- `i` is a primitive command with the body `b`, which leads to the bus phase `bp` when it ends `Ok` (R142 to R147). -/
structure Primitive (i : Instr) (b : State → Ended) (bp : BusPhase) : Prop where
  exec_eq : ∀ s, exec i s = issue i s fun s => (b (s.setSeq .prim)).answerPrimitive
  withHost : ∀ s h, b (s.withHost h) = (b s).withHost h
  leadsTo : ∀ s, (b s).outcome = .ok → (b s).state.bp = bp

/-- A status that is taken for success leads to the bus phase `bp`. -/
def Verdict.leadsTo (bp : BusPhase) : Verdict → Bool
  | .success p => p == bp
  | .failure _ => true

theorem runPhase_bp {ph : Phase} {verdict : Byte → Verdict} (hp : ph ≠ .stop)
    (hv : ∀ code : BitVec 5, (verdict (code ++ 0#3)).leadsTo bp = true) (hok : (runPhase ph verdict s).outcome = .ok) :
    (runPhase ph verdict s).state.bp = bp := by
  rcases runPhase_cases hp verdict s with
    ⟨-, k, code, data, e, n, -, ⟨p, hs, hr⟩ | ⟨r, -, hr⟩⟩ | ⟨e, n, hr⟩ <;> rw [hr] at hok ⊢
  · simpa [Verdict.leadsTo, hs] using hv code
  · cases hok
  · cases hok

theorem runStop_bp (hok : (runStop s).outcome = .ok) : (runStop s).state.bp = .idle := by
  rcases stopPhase_cases s with ⟨-, k, e, n, -, hs⟩ | ⟨e, n, hs⟩ <;> simp only [runStop, hs] at hok ⊢
  · rfl
  · cases hok

theorem primitive_of_phase {ph : Phase} {verdict : Byte → Verdict} (hp : ph ≠ .stop)
    (hexec : ∀ s, exec i s = issue i s fun s => (runPhase ph verdict (s.setSeq .prim)).answerPrimitive)
    (hv : ∀ code : BitVec 5, (verdict (code ++ 0#3)).leadsTo bp = true) : Primitive i (runPhase ph verdict) bp :=
  ⟨hexec, runPhase_withHost ph verdict, fun _ => runPhase_bp hp hv⟩

theorem primitive_start : Primitive .start startBody .started :=
  primitive_of_phase (by simp) (fun _ => rfl) (by decide)

theorem primitive_sendAddress (dev : Addr7) (rw : Dir) :
    Primitive (.sendAddress dev rw) (sendAddressBody dev rw) (addressed rw) :=
  primitive_of_phase (by simp) (fun _ => rfl) (by cases rw <;> decide)

theorem primitive_writeByte (val : Byte) : Primitive (.writeByte val) (writeByteBody val) .tx :=
  primitive_of_phase (by simp) (fun _ => rfl) (by decide)

theorem primitive_readByteAck : Primitive .readByteAck readByteAckBody .rx :=
  primitive_of_phase (by simp) (fun _ => rfl) (by decide)

theorem primitive_readByteNack : Primitive .readByteNack readByteNackBody .rxLast :=
  primitive_of_phase (by simp) (fun _ => rfl) (by decide)

theorem primitive_stop : Primitive .stop stopBody .idle where
  exec_eq := fun _ => rfl
  withHost := runStop_withHost
  leadsTo := fun _ => runStop_bp

/-! ### A frame, command by command (R172, R224) -/

theorem admitted_of_legal (hbp : s.bp = bp) (hl : orderLegal bp i = true) : admitted i s = true := by
  simp [admitted, hbp, hl]

/-- The frame, begun in the state `s` whatever the host's side holds, ends as `e` does but for the host's side, with the
response of a primitive command. -/
def FrameEnds (frame : List Instr) (s : State) (e : Ended) : Prop :=
  ∀ h, runChecked frame (s.withHost h) = .next (e.withHost h).answerPrimitive

theorem tag_eq_zero_iff {o : BusOutcome} : (Response.outcome o).tag = 0#2 ↔ o = .ok := by
  cases o <;> simp [Response.tag]

theorem tag_eq_one_iff {o : BusOutcome} : (Response.outcome o).tag = 1#2 ↔ o = .timeout := by
  cases o <;> simp [Response.tag]

/-- The response of a primitive command tells `Ok` from the other outcomes (R93). -/
theorem rspTag_answerPrimitive (e : Ended) : rspTag e.answerPrimitive.rsp = 0#2 ↔ e.outcome = .ok := by
  obtain ⟨htag, -⟩ := responseWord_fields (.outcome e.outcome) 0#8 e.rdata
  rw [← tag_eq_zero_iff, ← htag]
  rfl

/-- A primitive command that is admitted, whatever the host's side holds. -/
theorem Primitive.exec_withHost (hp : Primitive i b bp) (ha : admitted i s = true) (h : HostSide) :
    exec i (s.withHost h) = .next ((b s).withHost h).answerPrimitive := by
  have hseq : (s.withHost h).setSeq .prim = s.withHost { h with seq := .prim } := rfl
  rw [hp.exec_eq, issue_admitted (s := s.withHost h) ha, hseq, hp.withHost]
  rfl

/-- A primitive command, and the rest of the frame when it ended `Ok`. -/
theorem Primitive.frameEnds_andThen {k : State → Ended} (hp : Primitive i b bp) (ha : admitted i s = true)
    (hk : (b s).state.bp = bp → FrameEnds rest (b s).state (k (b s).state)) :
    FrameEnds (i :: rest) s ((b s).andThen k) := by
  intro h
  have htag : rspTag ((b s).withHost h).answerPrimitive.rsp = 0#2 ↔ (b s).outcome = .ok := rspTag_answerPrimitive _
  simp only [runChecked, hp.exec_withHost ha h, htag]
  rcases Ended.andThen_cases (b s) k with ⟨hok, hthen⟩ | ⟨hne, hthen⟩ <;> rw [hthen]
  · rw [if_pos hok]
    exact hk (hp.leadsTo s hok) ((b s).withHost h).answerPrimitive.host
  · rw [if_neg hne]

/-- A frame does not depend on the step of SEQ it is begun at. -/
theorem FrameEnds.of_setSeq {frame : List Instr} {q : Seq} (h : FrameEnds frame (s.setSeq q) e) : FrameEnds frame s e :=
  fun h' => h h'

/-- A step of SEQ that is a primitive command, and the rest of the frame when it ended `Ok`. -/
theorem Primitive.frameEnds_step {k : State → Ended} {q : Seq} (hp : Primitive i b bp) (ha : admitted i s = true)
    (hk : (b (s.setSeq q)).state.bp = bp → FrameEnds rest (b (s.setSeq q)).state (k (b (s.setSeq q)).state)) :
    FrameEnds (i :: rest) s ((b (s.setSeq q)).andThen k) :=
  (hp.frameEnds_andThen (s := s.setSeq q) ha hk).of_setSeq

/-- The last step of SEQ. -/
theorem Primitive.frameEnds_last {q : Seq} (hp : Primitive i b bp) (ha : admitted i s = true) :
    FrameEnds [i] s (b (s.setSeq q)) := by
  refine FrameEnds.of_setSeq (q := q) fun h => ?_
  simp only [runChecked, hp.exec_withHost (s := s.setSeq q) ha h, ite_self]

/-- A frame whose first command is not admitted is refused (R150). -/
theorem runChecked_refused {frame : List Instr} (hp : Primitive i b bp) (ha : admitted i s = false) :
    runChecked (i :: frame) s = .refused (.outOfOrder s.bp) := by
  simp only [runChecked, hp.exec_eq, issue, ha, Bool.false_eq_true, if_false]

/-! ### `WRITE_REGISTER` (R96, R170) -/

theorem writeFrame_ends (dev : Addr7) (reg val : Byte) (ha : admitted .start s = true) :
    FrameEnds (writeFrame dev reg val) s (writeRegisterBody dev reg val s) := by
  refine primitive_start.frameEnds_step ha fun h0 => ?_
  refine (primitive_sendAddress dev .write).frameEnds_step (admitted_of_legal h0 rfl) fun h1 => ?_
  refine (primitive_writeByte reg).frameEnds_step (admitted_of_legal h1 rfl) fun h2 => ?_
  refine (primitive_writeByte val).frameEnds_step (admitted_of_legal h2 rfl) fun h3 => ?_
  exact primitive_stop.frameEnds_last (admitted_of_legal h3 rfl)

/-- A transaction may begin where a start may (R149). -/
theorem admitted_transaction_iff (hm : i.mnemonic ∈ ["WRITE_REGISTER", "READ_REGISTER"]) (s : State) :
    admitted i s = admitted .start s := by
  cases i with
  | writeRegister | readRegister =>
    simp only [admitted]
    cases s.bp <;> rfl
  | _ => simp [Instr.mnemonic] at hm

theorem Ended.andThen_rdata {k : State → Ended} (he : e.rdata = 0#8) (hk : ∀ u, (k u).rdata = 0#8) :
    (e.andThen k).rdata = 0#8 := by
  rcases Ended.andThen_cases e k with ⟨-, hthen⟩ | ⟨-, hthen⟩ <;> rw [hthen]
  · exact hk _
  · exact he

/-- A phase that receives nothing ends with RDATA = 0 (R92). -/
theorem runPhase_rdata {ph : Phase} (hp : ph ≠ .stop) (hrx : ph.isRx = false) (verdict : Byte → Verdict) (s : State) :
    (runPhase ph verdict s).rdata = 0#8 := by
  rcases runPhase_cases hp verdict s with
    ⟨-, k, code, data, e, n, -, ⟨p, -, hr⟩ | ⟨r, -, hr⟩⟩ | ⟨e, n, hr⟩ <;> simp [hr, hrx]

theorem writeRegisterBody_rdata (dev : Addr7) (reg val : Byte) (s : State) :
    (writeRegisterBody dev reg val s).rdata = 0#8 := by
  refine Ended.andThen_rdata (runPhase_rdata (by simp) rfl _ _) fun _ => ?_
  refine Ended.andThen_rdata (runPhase_rdata (by simp) rfl _ _) fun _ => ?_
  refine Ended.andThen_rdata (runPhase_rdata (by simp) rfl _ _) fun _ => ?_
  exact Ended.andThen_rdata (runPhase_rdata (by simp) rfl _ _) fun _ => rfl

/-- The response of a body that received nothing and left RXBUF and IDX alone. -/
theorem Ended.answerPrimitive_withHost (hrdata : e.rdata = 0#8) (hbuf : e.state.rxbuf = s.rxbuf)
    (hidx : e.state.idx = s.idx) : (e.withHost s.host).answerPrimitive = e.answerWrite := by
  simp only [Ended.answerPrimitive, Ended.answerWrite, Ended.withHost, State.withHost, State.host, State.respond,
    ← hbuf, ← hidx, hrdata]

/-- Settles O23: the frame ends as the body does, which receives nothing and leaves RXBUF and IDX alone. -/
theorem writeRegisterIsItsFrame : Obligations.WriteRegisterIsItsFrame := by
  unfold Obligations.WriteRegisterIsItsFrame
  intro dev reg val s
  have hadm := admitted_transaction_iff (i := .writeRegister dev reg val) (by simp [Instr.mnemonic]) s
  cases ha : admitted .start s with
  | false =>
    rw [writeFrame, runChecked_refused primitive_start ha]
    exact if_neg (by simp [hadm, ha])
  | true =>
    have hframe := writeFrame_ends dev reg val ha s.host
    have hexec := exec_of_admitted (i := .writeRegister dev reg val) rfl (hadm.trans ha)
    obtain ⟨hbuf, hidx⟩ := exec_sameBuffer (by simp [Instr.mnemonic]) hexec
    rw [s.withHost_host, Ended.answerPrimitive_withHost (writeRegisterBody_rdata dev reg val s) hbuf hidx] at hframe
    exact hexec.trans hframe.symm

/-! ### `READ_REGISTER` (R97, R171) -/

/-- A primitive command leaves IDX, as all that the host's side holds. -/
theorem Primitive.idx_eq (hp : Primitive i b bp) (s : State) : (b s).state.idx = s.idx := by
  have hself := hp.withHost s s.host
  rw [s.withHost_host] at hself
  rw [hself]
  rfl

theorem FrameEnds.of_clearIdx {frame : List Instr} (h : FrameEnds frame s.clearIdx e) : FrameEnds frame s e :=
  fun h' => h h'

/-- A frame does not depend on the bytes stored before it. -/
theorem FrameEnds.of_storeRx {frame : List Instr} {d : Byte} (h : FrameEnds frame (s.storeRx d) e) :
    FrameEnds frame s e :=
  fun h' => h h'

/-- IDX counts on when a byte is stored in an entry that exists (R171). -/
theorem storeRx_idx_toNat (h : s.idx.toNat < Config.rxbufSize) (d : Byte) :
    (s.storeRx d).idx.toNat = s.idx.toNat + 1 := by
  have hfit : s.idx.toNat < 255 := h
  exact BitVec.toNat_add_of_lt (by simp; omega)

/-- The receive steps with `n` bytes before the last one, and the final stop (R177). -/
theorem receiveFrame_ends {len : Byte} (n : Nat) (hbp : s.bp = .rx) (hlen : s.idx.toNat + (n + 1) = len.toNat) :
    FrameEnds (List.replicate n .readByteAck ++ [.readByteNack, .stop]) s
      ((receiveLoop len (n + 1) s).andThen fun u => stopBody (u.setSeq .r6)) := by
  induction n generalizing s with
  | zero =>
    have hlast : receiveBody len s = readByteNackBody s := by simp [receiveBody, rxAcks_eq _ _ 0 hlen]
    rw [receiveLoop_succ (by omega), Ended.andThen_assoc, hlast]
    refine primitive_readByteNack.frameEnds_andThen (admitted_of_legal hbp rfl) fun h1 => ?_
    simp only [receiveLoop, Ended.andThen_ok]
    exact FrameEnds.of_storeRx (primitive_stop.frameEnds_last (admitted_of_legal h1 rfl))
  | succ n ih =>
    have hmore : receiveBody len s = readByteAckBody s := by simp [receiveBody, rxAcks_eq _ _ (n + 1) hlen]
    rw [receiveLoop_succ (by omega), Ended.andThen_assoc, hmore]
    refine primitive_readByteAck.frameEnds_andThen (admitted_of_legal hbp rfl) fun h1 => ?_
    have hidx : (readByteAckBody s).state.idx = s.idx := primitive_readByteAck.idx_eq s
    have hfit : s.idx.toNat < 255 := by have := len.isLt; omega
    refine FrameEnds.of_storeRx (ih h1 ?_)
    rw [storeRx_idx_toNat (by rwa [hidx]), hidx]
    omega

theorem readFrame_ends {len : Byte} (dev : Addr7) (reg : Byte) (hlen : len ≠ 0#8) (ha : admitted .start s = true) :
    FrameEnds (readFrame dev reg len) s (readRegisterBody dev reg len s) := by
  obtain ⟨n, hn⟩ : ∃ n, len.toNat = n + 1 :=
    Nat.exists_eq_succ_of_ne_zero fun hz => hlen (BitVec.eq_of_toNat_eq hz)
  rw [readFrame, readRegisterBody, hn, List.append_assoc, Nat.add_sub_cancel]
  refine FrameEnds.of_clearIdx ?_
  refine primitive_start.frameEnds_step ha fun h0 => ?_
  refine (primitive_sendAddress dev .write).frameEnds_step (admitted_of_legal h0 rfl) fun h1 => ?_
  refine (primitive_writeByte reg).frameEnds_step (admitted_of_legal h1 rfl) fun h2 => ?_
  refine primitive_start.frameEnds_step (admitted_of_legal h2 rfl) fun h3 => ?_
  refine (primitive_sendAddress dev .read).frameEnds_step (admitted_of_legal h3 rfl) fun h4 => ?_
  refine FrameEnds.of_setSeq (receiveFrame_ends n ((State.setSeq_bp _ _).trans h4) ?_)
  simp [primitive_start.idx_eq, (primitive_sendAddress dev _).idx_eq, (primitive_writeByte reg).idx_eq, hn]

/-- Tag and code of a response do not depend on COUNT and RDATA (R92). -/
theorem rsp_tag_code (o : BusOutcome) (c d c' d' : Byte) :
    rspTag (responseWord (.outcome o) c d) = rspTag (responseWord (.outcome o) c' d') ∧
      rspCode (responseWord (.outcome o) c d) = rspCode (responseWord (.outcome o) c' d') := by
  obtain ⟨htag, hcode, -⟩ := responseWord_fields (.outcome o) c d
  obtain ⟨htag', hcode', -⟩ := responseWord_fields (.outcome o) c' d'
  exact ⟨htag.trans htag'.symm, hcode.trans hcode'.symm⟩

/-- Settles O24: the frame ends as the body does, but for what the host's side holds. -/
theorem readRegisterIsItsFrame : Obligations.ReadRegisterIsItsFrame := by
  unfold Obligations.ReadRegisterIsItsFrame
  intro dev reg len s hlen
  have hwf : (Instr.readRegister dev reg len).wf = true := by simpa [Instr.wf, lenOk] using hlen
  have hadm := admitted_transaction_iff (i := .readRegister dev reg len) (by simp [Instr.mnemonic]) s
  cases ha : admitted .start s with
  | false =>
    refine .inr ⟨_, ?_, runChecked_refused primitive_start ha⟩
    rw [exec_eq_issue hwf]
    exact if_neg (by simp [hadm, ha])
  | true =>
    have hframe := readFrame_ends dev reg hlen ha s.host
    rw [s.withHost_host] at hframe
    exact .inl ⟨_, _, exec_of_admitted hwf (hadm.trans ha), hframe, rfl, rsp_tag_code _ _ _ _ _⟩

end Sys2Proof.Machine
end

section
/-!
PROOFS. RXBUF and COUNT after `READ_REGISTER`, whatever its outcome (R171, R175): between the steps of SEQ the buffer
holds the bytes received `Ok` so far, and a failing step adds none.
-/

namespace Sys2Proof.Machine

open Safety

variable {s0 s t u : State} {e : Ended} {k : State → Ended} {ph : Phase} {verdict : Byte → Verdict} {len d : Byte}
  {bytes bytes' : List Byte} {n : Nat}

/-! ### The bytes received `Ok` -/

/-- From `s` to `t` the phases that ended `Ok` have received the bytes `bytes`. -/
def Gains (bytes : List Byte) (s t : State) : Prop :=
  ∃ new, t.trace = s.trace ++ new ∧ new.filterMap receivedByte = bytes

theorem Gains.of_eq (h : t.trace = s.trace) : Gains [] s t := ⟨[], by simp [h], rfl⟩

theorem Gains.of_event {ev : Event} (h : t.trace = s.trace ++ [ev]) : Gains (receivedByte ev).toList s t :=
  ⟨[ev], h, by cases hr : receivedByte ev <;> simp [hr]⟩

theorem Gains.setBp (h : Gains bytes s t) (bp : BusPhase) : Gains bytes s (t.setBp bp) := h

theorem Gains.trans (h : Gains bytes s t) (h' : Gains bytes' t u) : Gains (bytes ++ bytes') s u := by
  obtain ⟨new, htrace, rfl⟩ := h
  obtain ⟨new', htrace', rfl⟩ := h'
  exact ⟨new ++ new', by rw [htrace', htrace, List.append_assoc], List.filterMap_append⟩

/-- A recovery receives nothing (R116, R117). -/
theorem recover_gains (r : Recovery) (s : State) : Gains [] s (recover r s) := by
  cases r with
  | leave => exact .of_eq rfl
  | stop =>
    rcases stopPhase_cases s with ⟨-, k, e, n, -, h⟩ | ⟨e, n, h⟩ <;> rw [recover, h]
    · exact .of_event (ev := .phase .stop .stopCleared) rfl
    · exact .of_event (ev := .phase .stop .expired) rfl
  | release => exact .of_event (ev := .release) rfl

/-- The byte `data` of a completed phase, where it is one received `Ok`: the phase is a receive, its status a
success. -/
def byteOf (ph : Phase) (data : Byte) : Verdict → Option Byte
  | .success _ => if ph.isRx then some data else none
  | .failure _ => none

/-- The event of a completed phase tells of a byte received `Ok` exactly when the verdict on its status says so. -/
def TellsByte (ph : Phase) (verdict : Byte → Verdict) : Prop :=
  ∀ (code : BitVec 5) (data : Byte),
    receivedByte (.phase ph (.completed (code ++ 0#3) (if ph.isRx then some data else none))) =
      byteOf ph data (verdict (code ++ 0#3))

theorem tellsByte_of_not_rx (h : ph.isRx = false) (verdict : Byte → Verdict) : TellsByte ph verdict := by
  intro code data
  cases ph with
  | rx => cases h
  | _ => cases verdict (code ++ 0#3) <;> rfl

theorem tellsByte_rxAck : TellsByte (.rx true) rxAckVerdict := by
  intro code data
  have hcases : ∀ c : BitVec 5, (c ++ 0#3 = 0x50#8 ∧ rxAckVerdict (c ++ 0#3) = .success .rx) ∨
      (c ++ 0#3 ≠ 0x50#8 ∧ rxAckVerdict (c ++ 0#3) = .failure .release) := by decide
  rcases hcases code with ⟨hc, hv⟩ | ⟨hc, hv⟩ <;> rw [hv] <;> simp [receivedByte, byteOf, Phase.isRx, hc]

theorem tellsByte_rxNack : TellsByte (.rx false) rxNackVerdict := by
  intro code data
  have hcases : ∀ c : BitVec 5, (c ++ 0#3 = 0x58#8 ∧ rxNackVerdict (c ++ 0#3) = .success .rxLast) ∨
      (c ++ 0#3 ≠ 0x58#8 ∧ rxNackVerdict (c ++ 0#3) = .failure .release) := by decide
  rcases hcases code with ⟨hc, hv⟩ | ⟨hc, hv⟩ <;> rw [hv] <;> simp [receivedByte, byteOf, Phase.isRx, hc]

theorem completed_gains (hv : TellsByte ph verdict) (s : State) (k : Nat) (code : BitVec 5) (data : Byte)
    (e : List Config.Answer) (n : Nat) :
    Gains (byteOf ph (s.completed ph k code data e n).data (verdict (code ++ 0#3))).toList s
      ((s.completed ph k code data e n).emit (completedEvent ph (s.completed ph k code data e n))) := by
  rw [← hv]
  cases ph <;> exact .of_event rfl

theorem expired_gains (s : State) (ph : Phase) (e : List Config.Answer) (n : Nat) :
    Gains [] s (({ s.launched ph with env := e, draws := n, budget := 0#8 }).expire ph) := by
  have hevent : (receivedByte (.phase ph .expired)).toList = [] := by
    cases ph with
    | rx ack => cases ack <;> rfl
    | _ => rfl
  rw [← hevent]
  cases ph <;> exact .of_event rfl

/-- The bytes a phase has received `Ok` when its body has ended as `e`. -/
def Ended.gained (e : Ended) (ph : Phase) : List Byte := if e.outcome = .ok ∧ ph.isRx = true then [e.rdata] else []

theorem runPhase_gains (hp : ph ≠ .stop) (hv : TellsByte ph verdict) (s : State) :
    Gains ((runPhase ph verdict s).gained ph) s (runPhase ph verdict s).state := by
  rcases runPhase_cases hp verdict s with
    ⟨-, k, code, data, e, n, -, ⟨bp, hs, hr⟩ | ⟨r, hf, hr⟩⟩ | ⟨e, n, hr⟩ <;> rw [hr]
  · have hgain := completed_gains hv s k code data e n
    rw [hs] at hgain
    cases hrx : ph.isRx <;> simpa [Ended.gained, byteOf, hrx] using hgain.setBp bp
  · have hgain := (completed_gains hv s k code data e n).trans (recover_gains r _)
    rw [hf] at hgain
    simpa [Ended.gained, byteOf] using hgain
  · simpa [Ended.gained] using expired_gains s ph e n

/-! ### The buffer between the steps of SEQ -/

/-- Since `s0` the bytes `bytes` were received `Ok`: they stand in the entries below IDX, and the other entries hold what
they held. -/
structure Collected (bytes : List Byte) (s0 s : State) : Prop where
  gains : Gains bytes s0 s
  count : bytes.length = s.idx.toNat
  stored : ∀ (j : Nat) (d : Byte), bytes[j]? = some d → rxbufRead s.rxbuf (BitVec.ofNat 8 j) = some d
  kept : ∀ j : Byte, s.idx ≤ j → rxbufRead s.rxbuf j = rxbufRead s0.rxbuf j

theorem Collected.begin (s : State) : Collected [] s s.clearIdx :=
  ⟨.of_eq rfl, rfl, nofun, fun _ _ => rfl⟩

theorem Collected.setSeq (h : Collected bytes s0 s) (q : Seq) : Collected bytes s0 (s.setSeq q) := { h with }

theorem Collected.after (h : Collected bytes s0 s) (hgain : Gains [] s t) (hsame : SameBuffer s t) :
    Collected bytes s0 t := by
  obtain ⟨hbuf, hidx⟩ := hsame
  refine ⟨by simpa using h.gains.trans hgain, ?_, ?_, ?_⟩
  · rw [hidx]; exact h.count
  · rw [hbuf]; exact h.stored
  · rw [hbuf, hidx]; exact h.kept

/-- One byte more is received and stored (R171). -/
theorem Collected.store (h : Collected bytes s0 s) (hgain : Gains [d] s t) (hsame : SameBuffer s t)
    (hfit : s.idx.toNat < Config.rxbufSize) : Collected (bytes ++ [d]) s0 (t.storeRx d) := by
  obtain ⟨hbuf, hidx⟩ := hsame
  have hnext : (s.idx + 1#8).toNat = s.idx.toNat + 1 := storeRx_idx_toNat hfit d
  have hcount := h.count
  refine ⟨h.gains.trans hgain, ?_, fun j b hj => ?_, fun j hj => ?_⟩
  · simp [hidx, hnext, hcount]
  · simp only [State.storeRx_rxbuf, hbuf, hidx]
    rcases Nat.lt_trichotomy j bytes.length with hlt | rfl | hgt
    · rw [rxbufRead_write_other]
      · exact h.stored j b (by simpa [List.getElem?_append_left hlt] using hj)
      · intro heq
        have hnat := congrArg BitVec.toNat heq
        rw [BitVec.toNat_ofNat, Nat.mod_eq_of_lt (by omega)] at hnat
        omega
    · obtain rfl : d = b := by simpa using hj
      rw [hcount, BitVec.ofNat_toNat, BitVec.setWidth_eq]
      exact rxbufRead_write_same _ _ _ hfit
    · simp [List.getElem?_eq_none (l := bytes ++ [d]) (i := j) (by simp; omega)] at hj
  · have hj' : s.idx.toNat + 1 ≤ j.toNat := by simpa [hidx, BitVec.le_def, hnext] using hj
    simp only [State.storeRx_rxbuf, hbuf, hidx]
    rw [rxbufRead_write_other _ _ _ _ (by rintro rfl; omega), h.kept j (by rw [BitVec.le_def]; omega)]

/-! ### The end of the body -/

/-- What the body of a read of `len` bytes, begun in `s0`, has come to when it ends as `e` (R171, R175). -/
structure ReadEnds (s0 : State) (len : Byte) (e : Ended) : Prop where
  collected : ∃ bytes, Collected bytes s0 e.state
  idx_le : e.state.idx.toNat ≤ len.toNat
  ok : e.outcome = .ok → e.state.idx = len
  stop : e.outcome = .timeout → e.state.trace.getLast? = some (.phase .stop .expired) → e.state.idx = len

theorem runPhase_sameBuffer (hp : ph ≠ .stop) (verdict : Byte → Verdict) (s : State) :
    SameBuffer s (runPhase ph verdict s).state :=
  (sameBuffer_keptByPhases s).runPhase verdict hp ⟨rfl, rfl⟩

/-- A body that ends with `Timeout` has added the expired phase last (R119). -/
theorem runPhase_timeout_last (hp : ph ≠ .stop) (ht : (runPhase ph verdict s).outcome = .timeout) :
    (runPhase ph verdict s).state.trace.getLast? = some (.phase ph .expired) := by
  rcases runPhase_cases hp verdict s with
    ⟨-, k, code, data, e, n, -, ⟨bp, -, hr⟩ | ⟨r, -, hr⟩⟩ | ⟨e, n, hr⟩ <;> rw [hr] at ht ⊢
  · cases ht
  · cases ht
  · simp [State.expire]

/-- A phase that did not end `Ok` is the last of the body. -/
theorem runPhase_failed_readEnds (hp : ph ≠ .stop) (hv : TellsByte ph verdict) (h : Collected bytes s0 s)
    (hle : s.idx.toNat ≤ len.toNat) (hne : (runPhase ph verdict s).outcome ≠ .ok) :
    ReadEnds s0 len (runPhase ph verdict s) := by
  have hsame := runPhase_sameBuffer hp verdict s
  have hgain := runPhase_gains hp hv s
  rw [Ended.gained, if_neg fun hok => hne hok.1] at hgain
  refine ⟨⟨bytes, h.after hgain hsame⟩, by rw [hsame.2]; exact hle, fun hok => absurd hok hne, fun ht hlast => ?_⟩
  rw [runPhase_timeout_last hp ht] at hlast
  simp [hp] at hlast

/-- A step that receives nothing, and what follows it. -/
theorem readEnds_andThen (hp : ph ≠ .stop) (hrx : ph.isRx = false) (h : Collected bytes s0 s)
    (hle : s.idx.toNat ≤ len.toNat) (hk : ∀ u, Collected bytes s0 u → u.idx = s.idx → ReadEnds s0 len (k u)) :
    ReadEnds s0 len ((runPhase ph verdict s).andThen k) := by
  have hv := tellsByte_of_not_rx hrx verdict
  rcases Ended.andThen_cases (runPhase ph verdict s) k with ⟨-, hthen⟩ | ⟨hne, hthen⟩ <;> rw [hthen]
  · have hsame := runPhase_sameBuffer hp verdict s
    have hgain := runPhase_gains hp hv s
    rw [Ended.gained, if_neg (by simp [hrx])] at hgain
    exact hk _ (h.after hgain hsame) hsame.2
  · exact runPhase_failed_readEnds hp hv h hle hne

/-- The receive step R5 is a receive phase, acknowledged or not. -/
theorem receiveBody_phase (len : Byte) (s : State) :
    ∃ ph verdict, ph ≠ .stop ∧ ph.isRx = true ∧ TellsByte ph verdict ∧ receiveBody len s = runPhase ph verdict s := by
  unfold receiveBody
  split
  · exact ⟨.rx true, _, by simp, rfl, tellsByte_rxAck, rfl⟩
  · exact ⟨.rx false, _, by simp, rfl, tellsByte_rxNack, rfl⟩

/-- The loop of R5 with `n` bytes to come, and the step after it. -/
theorem receiveLoop_readEnds (hk : ∀ bytes u, Collected bytes s0 u → u.idx = len → ReadEnds s0 len (k u)) (n : Nat)
    (h : Collected bytes s0 s) (hn : s.idx.toNat + n = len.toNat) :
    ReadEnds s0 len ((receiveLoop len n s).andThen k) := by
  induction n generalizing bytes s with
  | zero => exact hk bytes s h (BitVec.eq_of_toNat_eq hn)
  | succ n ih =>
    obtain ⟨ph, verdict, hp, hrx, hv, hbody⟩ := receiveBody_phase len s
    have hfit : s.idx.toNat < 255 := by have := len.isLt; omega
    rw [receiveLoop_succ (by omega), Ended.andThen_assoc, hbody]
    rcases Ended.andThen_cases (runPhase ph verdict s) _ with ⟨hok, hthen⟩ | ⟨hne, hthen⟩ <;> rw [hthen]
    · have hsame := runPhase_sameBuffer hp verdict s
      have hgain := runPhase_gains hp hv s
      rw [Ended.gained, if_pos ⟨hok, hrx⟩] at hgain
      refine ih (h.store hgain hsame hfit) ?_
      rw [storeRx_idx_toNat (by rwa [hsame.2]), hsame.2]
      omega
    · exact runPhase_failed_readEnds hp hv h (by omega) hne

/-- The final stop, whether it is cleared or not. -/
theorem stopBody_readEnds (h : Collected bytes s0 s) (hidx : s.idx = len) : ReadEnds s0 len (stopBody s) := by
  have hsame : SameBuffer s (stopBody s).state := (sameBuffer_keptByPhases s).stopPhase ⟨rfl, rfl⟩
  have hlen : (stopBody s).state.idx = len := hsame.2.trans hidx
  exact ⟨⟨bytes, h.after (recover_gains .stop s) hsame⟩, by rw [hlen], fun _ => hlen, fun _ _ => hlen⟩

theorem readRegisterBody_readEnds (dev : Addr7) (reg len : Byte) (s : State) :
    ReadEnds s len (readRegisterBody dev reg len s) := by
  have hle {u : State} (hu : u.idx = 0#8) : u.idx.toNat ≤ len.toNat := by simp [hu]
  refine readEnds_andThen (by simp) rfl ((Collected.begin s).setSeq .r0) (hle rfl) fun u0 c0 i0 => ?_
  refine readEnds_andThen (by simp) rfl (c0.setSeq .r1) (hle i0) fun u1 c1 i1 => ?_
  have z1 := i1.trans i0
  refine readEnds_andThen (by simp) rfl (c1.setSeq .r2) (hle z1) fun u2 c2 i2 => ?_
  have z2 := i2.trans z1
  refine readEnds_andThen (by simp) rfl (c2.setSeq .r3) (hle z2) fun u3 c3 i3 => ?_
  have z3 := i3.trans z2
  refine readEnds_andThen (by simp) rfl (c3.setSeq .r4) (hle z3) fun u4 c4 i4 => ?_
  have z4 : u4.idx = 0#8 := i4.trans z3
  exact receiveLoop_readEnds (fun _ u5 c5 i5 => stopBody_readEnds (c5.setSeq .r6) i5) _ (c4.setSeq .r5) (by simp [z4])

/-- Settles O25: the body ends with the bytes collected, and the response shows IDX. -/
theorem readRegisterCountAndBuffer : Obligations.ReadRegisterCountAndBuffer := by
  unfold Obligations.ReadRegisterCountAndBuffer
  intro dev reg len s t hlen h
  have hwf : (Instr.readRegister dev reg len).wf = true := by simpa [Instr.wf, lenOk] using hlen
  rcases exec_next_cases h with ⟨-, -, rfl⟩ | ⟨hbad, -⟩
  · have hends : ReadEnds s len (commandBody (.readRegister dev reg len) s) := readRegisterBody_readEnds dev reg len s
    generalize commandBody (.readRegister dev reg len) s = e at hends
    obtain ⟨⟨bytes, ⟨new, htrace, rfl⟩, hcount, hstored, hkept⟩, hle, hok, hstop⟩ := hends
    obtain ⟨htag, -, hrspCount, hrdata, -⟩ := responseWord_fields (.outcome e.outcome) e.state.idx 0#8
    refine ⟨hrspCount, hrdata, hle, fun h0 => hok ?_, fun h1 => hstop ?_, ⟨new, htrace, hcount, hstored⟩, hkept⟩
    · exact tag_eq_zero_iff.1 (htag.symm.trans h0)
    · exact tag_eq_one_iff.1 (htag.symm.trans h1)
  · simp [hwf] at hbad

end Sys2Proof.Machine
end

section
/-!
PROOFS. A command whose first phase the enabled Core does not end within the budget (R119, R192), the status classifier
(R94, R95, R115), and the micro-step of a release (R116, R120).
-/

namespace Sys2Proof.Machine

open Safety

/-- Settles O29: the first phase is launched, expires, and is left as it is. -/
theorem timeoutRecoversNothing : Obligations.TimeoutRecoversNothing := by
  unfold Obligations.TimeoutRecoversNothing
  intro i s a rest hwf hen hi hord henv hseen
  obtain ⟨ph, hph⟩ := exists_firstPhase hi
  refine ⟨ph, hph, linesAtLaunch s, ?_⟩
  rw [exec_unseen hwf (admitted_of_mayFollow hord) hph hen henv hseen, State.timedOut, hen]
  rfl

/-- Masking bits 2:0 away leaves bits 7:3 in their place (R95). -/
theorem masked_eq_append (c : Byte) : c &&& 0xF8#8 = c.extractLsb' 3 5 ++ 0#3 := by
  revert c; decide

/-- Two status codes are the same exactly when their bits 7:3 are (R28). -/
theorem append_zeros_inj {k k' : BitVec 5} : k ++ 0#3 = k' ++ 0#3 ↔ k = k' := by
  revert k k'; decide

/-- Settles O7: the class is read from bits 7:3, and each row of the table is the code of those bits with zeros below. -/
theorem classifierFollowsTable : Obligations.ClassifierFollowsTable := by
  unfold Obligations.ClassifierFollowsTable
  intro c
  have hrow (k : BitVec 5) : (c &&& 0xF8#8 = k ++ 0#3) = (c.extractLsb' 3 5 = k) := by
    rw [masked_eq_append, append_zeros_inj]
  simp only [classify, ← hrow]
  rfl

/-- Settles O45: with nothing presented the busy Engine does its micro-step, which is the release of R116. -/
theorem releaseMicroStep : Obligations.ReleaseMicroStep := by
  unfold Obligations.ReleaseMicroStep
  intro s o hbusy hctl hin
  calc step s = deliver .idle (s.beginStep []) := step_nil hin
    _ = tick (s.beginStep []) := if_pos hbusy
    _ = .next ((s.beginStep []).release.setCtl (.next o 0#8)) := by simp only [tick, State.beginStep_ctl, hctl]
    _ = _ := by rw [State.beginStep, ← hin]; rfl

end Sys2Proof.Machine
end

section
/-!
PROOFS. The poll of a phase over the entries of the inputs, step by step (R111 to R114): each step of the polling Engine,
the samples that do not see the flag, then the completion between two samples and the budget used up.
-/

namespace Sys2Proof.Machine

open Safety

variable {s u : State} {c : Control} {ph : Phase} {kept : Option BusOutcome} {k n : Nat} {ins rest : List Input}

/-! ### Runs, step by step -/

theorem run_succ (h : step s = .next u) (n : Nat) : Host.Core.run core (n + 1) s = Host.Core.run core n u := by
  have hcore : core.step s = .next u := h
  simp only [Host.Core.run, hcore]

/-- The busy Engine of `s` in control state `c`, after `k` failed samples with their waits (R111), with `ins` to come. -/
def State.polling (s : State) (c : Control) (k : Nat) (ins : List Input) : State :=
  { s with busy := true, rspValid := false, ctl := c, budget := budgetAfter k, inputs := ins }

theorem polling_of_busy (hbusy : s.busy = true) (c : Control) (k : Nat) (ins : List Input) :
    s.polling c k ins = { s with rspValid := false, ctl := c, budget := budgetAfter k, inputs := ins } := by
  rw [State.polling, ← hbusy]

/-- A run of one step or more begins by ending the pulse of rsp_valid (log 12), so it can start from there. -/
theorem run_eq_polling (hbusy : s.busy = true) (hctl : s.ctl = c) (hbudget : s.budget = budgetAfter 0)
    (hin : s.inputs = ins) (n : Nat) :
    Host.Core.run core (n + 1) s = Host.Core.run core (n + 1) (s.polling c 0 ins) := by
  rw [State.polling, ← hbusy, ← hctl, ← hbudget, ← hin]
  rfl

/-! ### The steps of the poll -/

/-- With nothing presented, the Engine does its micro-step. -/
theorem step_polling_idle (s : State) (c : Control) (k : Nat) (rest : List Input) :
    step (s.polling c k (.idle :: rest)) = tick (s.polling c k rest) :=
  rfl

/-- E_SAMPLE, the flag not seen (R111, R112). -/
theorem step_sample_unseen (hs : s.ctrl.seen ph = false) :
    step (s.polling (.sample ph kept) k (.idle :: rest)) = .next (s.polling (.wait ph kept) k rest) := by
  rw [step_polling_idle]
  exact congrArg Host.Outcome.next (if_neg (by simp [State.polling, hs]))

/-- E_SAMPLE of a phase that is no stop, its DONE seen. -/
theorem step_sample_done (hp : ph ≠ .stop) (hdone : s.ctrl.done = true) :
    step (s.polling (.sample ph kept) k (.idle :: rest)) = .next (s.polling (.read ph) k rest) := by
  rw [step_polling_idle]
  cases ph with
  | stop => exact absurd rfl hp
  | _ => exact congrArg Host.Outcome.next (if_pos hdone)

/-- E_SAMPLE of a stop phase, its STO seen cleared (R117, R203). -/
theorem step_sample_cleared (hsto : s.ctrl.sto = false) :
    step (s.polling (.sample .stop kept) k (.idle :: rest)) =
      .next (s.stopCleared.polling (.next (kept.getD .ok) 0#8) k rest) := by
  rw [step_polling_idle]
  exact congrArg Host.Outcome.next (if_pos (by simp [State.polling, Ctrl.seen, hsto]))

theorem tickWait_left (ph : Phase) (kept : Option BusOutcome) (h : s.budget - 1#8 ≠ 0#8) :
    tickWait ph kept s = ({ s with budget := s.budget - 1#8 }).setCtl (.sample ph kept) := by
  simp [tickWait, h]

/-- E_WAIT with budget left. -/
theorem step_wait (hk : k + 1 < Config.pollLimit) :
    step (s.polling (.wait ph kept) k (.idle :: rest)) = .next (s.polling (.sample ph kept) (k + 1) rest) := by
  have hb : budgetAfter k - 1#8 = budgetAfter (k + 1) := budgetAfter_sub_one (by omega)
  have hleft : budgetAfter k - 1#8 ≠ 0#8 := hb ▸ budgetAfter_ne_zero hk
  calc step (s.polling (.wait ph kept) k (.idle :: rest))
      = .next (tickWait ph kept (s.polling (.wait ph kept) k rest)) := rfl
    _ = .next { s.polling (.sample ph kept) k rest with budget := budgetAfter k - 1#8 } :=
        congrArg Host.Outcome.next (tickWait_left (s := s.polling (.wait ph kept) k rest) ph kept hleft)
    _ = .next (s.polling (.sample ph kept) (k + 1) rest) := by rw [hb]; rfl

/-- E_WAIT that uses up the budget (R119). -/
theorem step_wait_expires (hk : k + 1 = Config.pollLimit) :
    step (s.polling (.wait ph kept) k (.idle :: rest)) =
      .next ((s.expire ph).polling (.next (kept.getD .timeout) 0#8) Config.pollLimit rest) := by
  have hused : budgetAfter k - 1#8 = 0#8 := by
    rw [budgetAfter_sub_one (by omega), hk]; rfl
  calc step (s.polling (.wait ph kept) k (.idle :: rest))
      = .next (tickWait ph kept (s.polling (.wait ph kept) k rest)) := rfl
    _ = .next ((s.expire ph).polling (.next (kept.getD .timeout) 0#8) Config.pollLimit rest) :=
        congrArg Host.Outcome.next (tickWait_expires (s := s.polling (.wait ph kept) k rest) hused)

theorem polling_coreComplete (s : State) (c : Control) (k : Nat) (ins : List Input) (code : BitVec 5) (d : Byte) :
    (s.polling c k ins).coreComplete code d = (s.coreComplete code d).polling c k ins := by
  have hpend : (s.polling c k ins).pend = s.pend := rfl
  have hen : (s.polling c k ins).ctrl.en = s.ctrl.en := rfl
  unfold State.coreComplete
  rw [hpend, hen]
  split
  · rfl
  · split
    · split <;> rfl
    · rfl

/-- `CoreComplete` leaves the Engine where it is (R114). -/
theorem step_coreComplete (code : BitVec 5) (d : Byte) :
    step (s.polling c k (.coreComplete code d :: rest)) = .next ((s.coreComplete code d).polling c k rest) :=
  congrArg Host.Outcome.next (polling_coreComplete s c k rest code d)

/-! ### The poll -/

theorem replicate_two_mul_succ (j : Nat) (l : List Input) :
    List.replicate (2 * (j + 1)) .idle ++ l = .idle :: .idle :: (List.replicate (2 * j) .idle ++ l) := rfl

/-- One sample that does not see the flag, with its wait. -/
theorem run_failed_sample (hs : s.ctrl.seen ph = false) (hk : k + 1 < Config.pollLimit) (n : Nat) :
    Host.Core.run core (n + 2) (s.polling (.sample ph kept) k (.idle :: .idle :: rest)) =
      Host.Core.run core n (s.polling (.sample ph kept) (k + 1) rest) :=
  calc Host.Core.run core (n + 1 + 1) (s.polling (.sample ph kept) k (.idle :: .idle :: rest))
      = Host.Core.run core (n + 1) (s.polling (.wait ph kept) k (.idle :: rest)) :=
        run_succ (step_sample_unseen hs) (n + 1)
    _ = Host.Core.run core n (s.polling (.sample ph kept) (k + 1) rest) := run_succ (step_wait hk) n

/-- `j` samples that do not see the flag, with their waits. -/
theorem run_unseen (hs : s.ctrl.seen ph = false) {j : Nat} (hk : k + j < Config.pollLimit) (n : Nat) :
    Host.Core.run core (n + 2 * j) (s.polling (.sample ph kept) k (List.replicate (2 * j) .idle ++ rest)) =
      Host.Core.run core n (s.polling (.sample ph kept) (k + j) rest) := by
  induction j generalizing k with
  | zero => rfl
  | succ j ih =>
    rw [replicate_two_mul_succ, Nat.mul_succ, ← Nat.add_assoc, run_failed_sample hs (by omega), ih (by omega),
      Nat.add_right_comm, Nat.add_assoc]

/-- A flag that has not come: DONE clear, or, for a stop, STO still set (R111, R112). -/
theorem seen_eq_false (hdone : ph ≠ .stop → s.ctrl.done = false) (hsto : ph = .stop → s.ctrl.sto = true) :
    s.ctrl.seen ph = false := by
  cases ph with
  | stop => simp [Ctrl.seen, hsto rfl]
  | _ => exact hdone (by simp)

/-- A completion between samples `k` - 1 and `k`, before the wait or in it, leaves the Engine at sample `k`. -/
theorem run_completion {m : Nat} {code : BitVec 5} {d : Byte} (hs : s.ctrl.seen ph = false)
    (hk : k < Config.pollLimit) (hm : m = 2 * k ∨ m + 1 = 2 * k) (n : Nat) :
    Host.Core.run core (n + 1 + 2 * k) (s.polling (.sample ph kept) 0
        (List.replicate m .idle ++ .coreComplete code d :: (List.replicate (2 * k + 1 - m) .idle ++ rest))) =
      Host.Core.run core n ((s.coreComplete code d).polling (.sample ph kept) k (.idle :: rest)) := by
  rcases hm with rfl | hm
  · have hleft : List.replicate (2 * k + 1 - 2 * k) Input.idle ++ rest = .idle :: rest := by
      rw [Nat.add_sub_cancel_left]; rfl
    rw [hleft, run_unseen hs (by omega), Nat.zero_add]
    exact run_succ (step_coreComplete code d) n
  · obtain ⟨j, rfl⟩ : ∃ j, k = j + 1 := ⟨k - 1, by omega⟩
    obtain rfl : m = 2 * j + 1 := by omega
    have hleft : List.replicate (2 * (j + 1) + 1 - (2 * j + 1)) Input.idle ++ rest = .idle :: .idle :: rest := by
      rw [show 2 * (j + 1) + 1 - (2 * j + 1) = 2 by omega]; rfl
    have hsteps : n + 1 + 2 * (j + 1) = n + 1 + 1 + 1 + 2 * j := by omega
    rw [hleft, hsteps, List.replicate_succ', List.append_assoc, List.singleton_append, run_unseen hs (by omega),
      Nat.zero_add]
    calc Host.Core.run core (n + 1 + 1 + 1)
          (s.polling (.sample ph kept) j (.idle :: .coreComplete code d :: .idle :: .idle :: rest))
        = Host.Core.run core (n + 1 + 1)
            (s.polling (.wait ph kept) j (.coreComplete code d :: .idle :: .idle :: rest)) :=
          run_succ (step_sample_unseen hs) _
      _ = Host.Core.run core (n + 1)
            ((s.coreComplete code d).polling (.wait ph kept) j (.idle :: .idle :: rest)) :=
          run_succ (step_coreComplete code d) _
      _ = _ := run_succ (step_wait hk) _

/-- Settles O39: all but one of the samples fail with budget left, the last wait uses it up. -/
theorem microPollExpires : Obligations.MicroPollExpires := by
  unfold Obligations.MicroPollExpires
  intro s ph kept rest hbusy hctl hbudget hdone hsto hin
  have hs : s.ctrl.seen ph = false := seen_eq_false hdone hsto
  obtain ⟨p, hp⟩ : ∃ p, Config.pollLimit = p + 1 := ⟨249, rfl⟩
  have hlist : s.inputs = List.replicate (2 * p) .idle ++ .idle :: .idle :: rest := by
    rw [hin, hp, Nat.mul_succ, List.replicate_add, List.append_assoc]; rfl
  rw [hp]
  calc Host.Core.run core (2 * p + 1 + 1) s
      = Host.Core.run core (2 * p + 2)
          (s.polling (.sample ph kept) 0 (List.replicate (2 * p) .idle ++ .idle :: .idle :: rest)) :=
        run_eq_polling hbusy hctl hbudget hlist _
    _ = Host.Core.run core 2 (s.polling (.sample ph kept) p (.idle :: .idle :: rest)) := by
        rw [Nat.add_comm, run_unseen hs (by omega), Nat.zero_add]
    _ = Host.Core.run core 1 (s.polling (.wait ph kept) p (.idle :: rest)) := run_succ (step_sample_unseen hs) 1
    _ = .next ((s.expire ph).polling (.next (kept.getD .timeout) 0#8) Config.pollLimit rest) :=
        run_succ (step_wait_expires hp.symm) 0
    _ = _ := congrArg Host.Outcome.next (polling_of_busy (s := s.expire ph) hbusy _ _ _)

/-- Settles O38: the completion leaves the Engine at sample `k`, which sees it. -/
theorem microPollSeesCompletion : Obligations.MicroPollSeesCompletion := by
  unfold Obligations.MicroPollSeesCompletion
  intro s ph kept k m code d rest hk hm hbusy hctl hbudget hdone hsto hen hpend hin
  have hrun : Host.Core.run core (2 * k + 2) s =
      Host.Core.run core 1 ((s.coreComplete code d).polling (.sample ph kept) k (.idle :: rest)) := by
    rw [run_eq_polling hbusy hctl hbudget hin, ← run_completion (seen_eq_false hdone hsto) hk hm]
    congr 1
    omega
  rw [hrun]
  refine ⟨fun hp => ?_, fun hp => ?_⟩
  · have hrx : (ph = .rx true ∨ ph = .rx false) = (ph.isRx = true) := by
      cases ph <;> simp [Phase.isRx]
    rw [coreComplete_phase hpend hp hen, run_succ (step_sample_done hp rfl)]
    simp only [hrx]
    exact congrArg Host.Outcome.next (polling_of_busy (s := s.coreDone ph (code ++ 0#3) d) hbusy _ _ _)
  · subst hp
    rw [coreComplete_stop hpend hen, run_succ (step_sample_cleared rfl)]
    exact ⟨.released, congrArg Host.Outcome.next (polling_of_busy (s := s.coreStopped.stopCleared) hbusy _ _ _)⟩

end Sys2Proof.Machine
end

section
/-!
PROOFS. The phases a command runs (R122, R151, R173): those of a primitive command, then those of a frame of primitive
commands by induction on the frame; a transaction is its frame.
-/

namespace Sys2Proof.Machine

open Safety

variable {s t u : State} {e : Ended} {ph : Phase} {verdict : Byte → Verdict} {i : Instr} {l l' frame : List Phase}
  {n : Nat}

/-- From `s` to `t` the phases `l` were run. -/
def Ran (l : List Phase) (s t : State) : Prop := ∃ new, t.trace = s.trace ++ new ∧ new.filterMap phaseOf = l

theorem Ran.of_eq (h : t.trace = s.trace) : Ran [] s t := ⟨[], by simp [h], rfl⟩

theorem Ran.of_event {ev : Event} (h : t.trace = s.trace ++ [ev]) : Ran (phaseOf ev).toList s t :=
  ⟨[ev], h, by cases hp : phaseOf ev <;> simp [hp]⟩

theorem Ran.trans (h : Ran l s t) (h' : Ran l' t u) : Ran (l ++ l') s u := by
  obtain ⟨new, htrace, rfl⟩ := h
  obtain ⟨new', htrace', rfl⟩ := h'
  exact ⟨new ++ new', by rw [htrace', htrace, List.append_assoc], List.filterMap_append⟩

/-! ### One phase -/

theorem stopPhase_ran (s : State) : Ran [.stop] s (stopPhase s).2 := by
  rcases stopPhase_cases s with ⟨-, k, e, n, -, h⟩ | ⟨e, n, h⟩ <;> rw [h]
  · exact .of_event (ev := .phase .stop .stopCleared) rfl
  · exact .of_event (ev := .phase .stop .expired) rfl

/-- Of the three recoveries the stop alone is a phase (R202). -/
theorem recover_ran (r : Recovery) (s : State) : Ran (if r = .stop then [.stop] else []) s (recover r s) := by
  cases r with
  | leave => exact .of_eq rfl
  | stop => exact stopPhase_ran s
  | release => exact .of_event (ev := .release) rfl

theorem completed_ran (s : State) (ph : Phase) (k : Nat) (code : BitVec 5) (data : Byte) (e : List Config.Answer)
    (n : Nat) :
    Ran [ph] s ((s.completed ph k code data e n).emit (completedEvent ph (s.completed ph k code data e n))) :=
  .of_event (ev := completedEvent ph (s.completed ph k code data e n)) (by simp [State.completed, State.launched])

theorem expired_ran (s : State) (ph : Phase) (e : List Config.Answer) (n : Nat) :
    Ran [ph] s (({ s.launched ph with env := e, draws := n, budget := 0#8 }).expire ph) :=
  .of_event (ev := .phase ph .expired) (by simp [State.launched])

/-- No status makes the phase end with a recovery stop. -/
def NeverStops (verdict : Byte → Verdict) : Prop := ∀ code : BitVec 5, verdict (code ++ 0#3) ≠ .failure .stop

/-- From `s` the phase `ph` alone has led to the end `e`, or, not `Ok`, the phase and a recovery stop, where the verdict
may ask for one. -/
def RanOnce (ph : Phase) (verdict : Byte → Verdict) (s : State) (e : Ended) : Prop :=
  Ran [ph] s e.state ∨ (¬ NeverStops verdict ∧ e.outcome ≠ .ok ∧ Ran [ph, .stop] s e.state)

theorem runPhase_ranOnce (hp : ph ≠ .stop) (verdict : Byte → Verdict) (s : State) :
    RanOnce ph verdict s (runPhase ph verdict s) := by
  rcases runPhase_cases hp verdict s with
    ⟨-, k, code, data, e, n, -, ⟨bp, -, hr⟩ | ⟨r, hv, hr⟩⟩ | ⟨e, n, hr⟩ <;> rw [hr]
  · exact .inl (completed_ran s ph k code data e n)
  · have hran := (completed_ran s ph k code data e n).trans (recover_ran r _)
    by_cases hstop : r = .stop
    · subst hstop
      exact .inr ⟨fun hnever => hnever code hv, by simp, hran⟩
    · rw [if_neg hstop] at hran
      exact .inl hran
  · exact .inl (expired_ran s ph e n)

/-! ### A primitive command -/

/-- A command has run the phase `ph` alone, or, with a response other than `Ok`, the phase and a recovery stop; the
latter only a command to which R122 gives two phases. -/
def RanPrimitive (ph : Phase) (i : Instr) (s t : State) : Prop :=
  Ran [ph] s t ∨ (maxPhases i = 2 ∧ rspTag t.rsp ≠ 0#2 ∧ Ran [ph, .stop] s t)

theorem rspTag_answer (e : Ended) (i : Instr) : rspTag (e.answer i).rsp = 0#2 ↔ e.outcome = .ok := by
  obtain ⟨htag, -⟩ := responseWord_fields (.outcome e.outcome) (e.count i) (e.shownByte i)
  rw [← tag_eq_zero_iff, ← htag]
  rfl

theorem RanOnce.answer (h : RanOnce ph verdict s e) (hi : NeverStops verdict ∨ maxPhases i = 2) :
    RanPrimitive ph i s (e.answer i) := by
  rcases h with hran | ⟨hstops, hne, hran⟩
  · exact .inl hran
  · exact .inr ⟨hi.resolve_left hstops, mt (rspTag_answer e i).1 hne, hran⟩

theorem exec_ranPrimitive (hprim : firstSeq i = .prim) (hph : firstPhase i = some ph) (h : exec i s = .next t) :
    RanPrimitive ph i s t := by
  rcases exec_next_cases h with ⟨-, -, rfl⟩ | ⟨hbad, -⟩
  · cases i with
    | init => cases hph
    | writeRegister | readRegister => cases hprim
    | stop =>
      obtain ⟨rfl⟩ := hph
      exact .inl (stopPhase_ran (s.setSeq .prim))
    | start =>
      obtain ⟨rfl⟩ := hph
      exact (runPhase_ranOnce (by simp) _ (s.setSeq .prim)).answer (.inl (by unfold NeverStops; decide))
    | sendAddress | writeByte =>
      obtain ⟨rfl⟩ := hph
      exact (runPhase_ranOnce (by simp) _ (s.setSeq .prim)).answer (.inr rfl)
    | readByteAck | readByteNack =>
      obtain ⟨rfl⟩ := hph
      exact (runPhase_ranOnce (by simp) _ (s.setSeq .prim)).answer (.inl (by unfold NeverStops; decide))
  · cases i with
    | readRegister => cases hprim
    | _ => cases hbad

/-! ### A frame of primitive commands (R172, R224) -/

/-- From `s` to `t` at most `n` phases were run: a beginning of `frame`, and after it at most one stop. -/
def RanWithin (frame : List Phase) (n : Nat) (s t : State) : Prop :=
  ∃ l, Ran l s t ∧ l.length ≤ n ∧ ∃ p, p <+: frame ∧ (l = p ∨ l = p ++ [.stop])

theorem RanWithin.none (h : Ran [] s t) (frame : List Phase) (n : Nat) : RanWithin frame n s t :=
  ⟨[], h, n.zero_le, [], List.nil_prefix, .inl rfl⟩

theorem RanPrimitive.within (h : RanPrimitive ph i s t) (hone : 1 ≤ maxPhases i) :
    RanWithin [ph] (maxPhases i) s t := by
  rcases h with hran | ⟨htwo, -, hran⟩
  · exact ⟨_, hran, hone, [ph], List.prefix_rfl, .inl rfl⟩
  · exact ⟨_, hran, htwo.ge, [ph], List.prefix_rfl, .inr rfl⟩

theorem RanWithin.cons (h1 : Ran [ph] s u) (h : RanWithin frame n u t) : RanWithin (ph :: frame) (n + 1) s t := by
  obtain ⟨l, hran, hlen, p, hp, hl⟩ := h
  refine ⟨ph :: l, h1.trans hran, Nat.succ_le_succ hlen, ph :: p, List.cons_prefix_cons.2 ⟨rfl, hp⟩, ?_⟩
  rcases hl with rfl | rfl
  · exact .inl rfl
  · exact .inr rfl

theorem runChecked_singleton (i : Instr) (s : State) : runChecked [i] s = exec i s := by
  unfold runChecked
  cases exec i s with
  | next t => simp [runChecked]
  | fault | refused => rfl

/-- A primitive command with a phase (R98). -/
def HasPhase (i : Instr) : Prop := firstSeq i = .prim ∧ (firstPhase i).isSome = true

/-- A frame of primitive commands that ends with `STOP`. -/
theorem runChecked_ranWithin {front : List Instr} (hfront : ∀ i ∈ front, HasPhase i)
    (h : runChecked (front ++ [.stop]) s = .next t) :
    RanWithin (front.filterMap firstPhase ++ [.stop]) (front.length + 1) s t := by
  induction front generalizing s with
  | nil =>
    rw [List.nil_append, runChecked_singleton] at h
    exact (exec_ranPrimitive rfl rfl h).within le_rfl
  | cons i front ih =>
    obtain ⟨⟨hprim, hsome⟩, hrest⟩ := List.forall_mem_cons.1 hfront
    obtain ⟨ph, hph⟩ := Option.isSome_iff_exists.1 hsome
    rw [List.filterMap_cons_some hph, List.cons_append]
    simp only [List.cons_append, runChecked] at h
    cases hexec : exec i s with
    | fault | refused => simp [hexec] at h
    | next u =>
      simp only [hexec] at h
      have hran := exec_ranPrimitive hprim hph hexec
      by_cases hok : rspTag u.rsp = 0#2
      · rw [if_pos hok] at h
        rcases hran with hran | ⟨-, hne, -⟩
        · exact .cons hran (ih hrest h)
        · exact absurd hok hne
      · rw [if_neg hok] at h
        obtain ⟨rfl⟩ := h
        rcases hran with hran | ⟨-, -, hran⟩
        · exact ⟨_, hran, by simp, [ph], by simp, .inl rfl⟩
        · exact ⟨_, hran, by simp, [ph], by simp, .inr rfl⟩

/-! ### Every command -/

/-- The frame of R96 but for its stop. -/
def writeFront (dev : Addr7) (reg val : Byte) : List Instr :=
  [.start, .sendAddress dev .write, .writeByte reg, .writeByte val]

theorem writeFront_hasPhases (dev : Addr7) (reg val : Byte) : ∀ i ∈ writeFront dev reg val, HasPhase i := by
  simp [writeFront, HasPhase, firstSeq, firstPhase]

theorem writeFrame_eq (dev : Addr7) (reg val : Byte) : writeFrame dev reg val = writeFront dev reg val ++ [.stop] :=
  rfl

theorem writeRegister_ranWithin {dev : Addr7} {reg val : Byte} (h : exec (.writeRegister dev reg val) s = .next t) :
    RanWithin (framePhases (.writeRegister dev reg val)) 5 s t := by
  rw [writeRegisterIsItsFrame dev reg val s, writeFrame_eq] at h
  exact runChecked_ranWithin (writeFront_hasPhases dev reg val) h

/-- The frame of R97 but for its stop. -/
def readFront (dev : Addr7) (reg len : Byte) : List Instr :=
  [Instr.start, .sendAddress dev .write, .writeByte reg, .start, .sendAddress dev .read]
    ++ List.replicate (len.toNat - 1) Instr.readByteAck ++ [Instr.readByteNack]

theorem readFrame_eq (dev : Addr7) (reg len : Byte) : readFrame dev reg len = readFront dev reg len ++ [.stop] := by
  simp [readFrame, readFront]

theorem readFront_hasPhases (dev : Addr7) (reg len : Byte) : ∀ i ∈ readFront dev reg len, HasPhase i := by
  have hrx : ∀ i ∈ List.replicate (len.toNat - 1) Instr.readByteAck, HasPhase i := fun i hi => by
    rw [List.eq_of_mem_replicate hi]
    exact ⟨rfl, rfl⟩
  rw [readFront, List.forall_mem_append, List.forall_mem_append]
  refine ⟨⟨?_, hrx⟩, ?_⟩ <;> simp [HasPhase, firstSeq, firstPhase]

theorem readRegister_ranWithin {dev : Addr7} {reg len : Byte} (hlen : len ≠ 0#8)
    (h : exec (.readRegister dev reg len) s = .next t) :
    RanWithin (framePhases (.readRegister dev reg len)) (len.toNat + 6) s t := by
  have hpos : len.toNat ≠ 0 := fun hz => hlen (BitVec.eq_of_toNat_eq hz)
  rcases readRegisterIsItsFrame dev reg len s hlen with ⟨t', u, ht, hu, htu, -⟩ | ⟨r, hr, -⟩
  · obtain rfl : t' = t := by rw [ht] at h; injection h
    have hlength : (readFront dev reg len).length + 1 = len.toNat + 6 := by
      simp [readFront]; omega
    have hphases : framePhases (.readRegister dev reg len) =
        (readFront dev reg len).filterMap firstPhase ++ [.stop] := by
      rw [framePhases, readFrame_eq, List.filterMap_append]; rfl
    rw [readFrame_eq] at hu
    have hran := runChecked_ranWithin (readFront_hasPhases dev reg len) hu
    rw [hlength, ← hphases, htu] at hran
    exact hran
  · rw [hr] at h
    cases h

theorem exec_ranWithin (h : exec i s = .next t) : RanWithin (framePhases i) (maxPhases i) s t := by
  cases i with
  | init =>
    rcases exec_next_cases h with ⟨-, -, rfl⟩ | ⟨-, rfl⟩
    · exact .none (.of_event (ev := .init) rfl) _ _
    · exact .none (.of_eq rfl) _ _
  | writeRegister => exact writeRegister_ranWithin h
  | readRegister dev reg len =>
    by_cases hlen : len = 0#8
    · rcases exec_next_cases h with ⟨hwf, -⟩ | ⟨-, rfl⟩
      · simp [Instr.wf, lenOk, hlen] at hwf
      · exact .none (.of_eq rfl) _ _
    · exact readRegister_ranWithin hlen h
  | start | stop | sendAddress | writeByte | readByteAck | readByteNack =>
    exact (exec_ranPrimitive rfl rfl h).within (Nat.le_of_ble_eq_true rfl)

/-- Settles O32: the events of phases are as many as the phases run, and these are within the frame. -/
theorem phasesOfACommandAreBounded : Obligations.PhasesOfACommandAreBounded := by
  unfold Obligations.PhasesOfACommandAreBounded
  intro i s t h
  obtain ⟨l, ⟨new, htrace, rfl⟩, hlen, hframe⟩ := exec_ranWithin h
  have hcount : (new.filter isPhase).length = (new.filterMap phaseOf).length := by
    simp only [List.length_filterMap_eq_countP, ← isPhase_eq, List.countP_eq_length_filter]
  exact ⟨new, htrace, hcount ▸ hlen, hframe⟩

end Sys2Proof.Machine
end

section
/-!
PROOFS. The commands that run one phase, with the answer that stands first in the script (R142 to R147): how the phase
is left, then success, each of the three recoveries, and expiry, said once for the five commands whose phase is no stop.
-/

namespace Sys2Proof.Machine

open Safety

variable {s : State} {a a2 : Config.Answer} {rest rest2 : List Config.Answer} {ph : Phase} {verdict : Byte → Verdict}
  {bp : BusPhase} {r : Recovery} {i : Instr} {k k2 : Nat}

/-! ### The response words (R92, R93) -/

theorem responseWord_ok : responseWord (.outcome .ok) 0#8 0#8 = 0x00000000#32 := by decide

theorem responseWord_ok_byte (d : Byte) : responseWord (.outcome .ok) 0#8 d = 0#24 ++ d :=
  congrArg (· ++ d) (by decide : 0#2 ++ 0#6 ++ 0#8 ++ 0#8 = 0#24)

/-! ### The verdicts on a status an answer can give (R142 to R148) -/

theorem startVerdict_codeOf (a : Config.Answer) :
    startVerdict (codeOf a) =
      if codeOf a = 0x08#8 ∨ codeOf a = 0x10#8 then .success .started
      else if codeOf a = 0x38#8 then .failure .release else .failure .leave := by
  unfold codeOf
  generalize a.code = code
  revert code
  decide

theorem addrVerdict_codeOf (rw : Dir) (a : Config.Answer) :
    addrVerdict rw (codeOf a) =
      if codeOf a = (if rw = .write then 0x18#8 else 0x40#8) then .success (if rw = .write then .tx else .rx)
      else if codeOf a = 0x20#8 ∨ codeOf a = 0x48#8 then .failure .stop else .failure .release := by
  unfold codeOf
  generalize a.code = code
  cases rw <;> revert code <;> decide

theorem txVerdict_codeOf (a : Config.Answer) :
    txVerdict (codeOf a) =
      if codeOf a = 0x28#8 then .success .tx
      else if codeOf a = 0x30#8 then .failure .stop else .failure .release := by
  unfold codeOf
  generalize a.code = code
  revert code
  decide

theorem rxAckVerdict_codeOf (a : Config.Answer) :
    rxAckVerdict (codeOf a) = if codeOf a = 0x50#8 then .success .rx else .failure .release := by
  unfold codeOf
  generalize a.code = code
  revert code
  decide

theorem rxNackVerdict_codeOf (a : Config.Answer) :
    rxNackVerdict (codeOf a) = if codeOf a = 0x58#8 then .success .rxLast else .failure .release := by
  unfold codeOf
  generalize a.code = code
  revert code
  decide

/-! ### One phase -/

/-- The enabled Core after a phase that is no stop was seen to end at sample `k`, its status not yet acted on (R118). -/
def State.seenBy (s : State) (ph : Phase) (a : Config.Answer) (k : Nat) (rest : List Config.Answer) : State :=
  { s with
    data := if ph.isRx then a.data else ph.sends.getD s.data
    ctrl := { done := true, aen := ph == .rx true, sta := ph == .start, sto := false, en := true }
    status := codeOf a
    budget := budgetAfter k
    pend := none
    lines := .underCore
    env := rest
    trace := s.trace ++ [answerEvent ph a] }

theorem answeredBy_eq_seenBy (hp : ph ≠ .stop) (hen : s.ctrl.en = true) :
    s.answeredBy ph a k rest = s.seenBy ph a k rest := by
  obtain ⟨⟨done, aen, sta, sto, en⟩, status⟩ := s
  obtain rfl : en = true := hen
  cases ph with
  | stop => exact absurd rfl hp
  | _ => rfl

/-- `i` is a primitive command whose one phase is `ph`, no stop, its status read by `verdict` (R142, R144 to R147). -/
structure RunsPhase (i : Instr) (ph : Phase) (verdict : Byte → Verdict) : Prop where
  body : ∀ s, commandBody i s = runPhase ph verdict (s.setSeq .prim)
  noStop : ph ≠ .stop
  prim : firstSeq i = .prim
  wf : i.wf = true

theorem start_runsPhase : RunsPhase .start .start startVerdict := ⟨fun _ => rfl, by simp, rfl, rfl⟩

theorem sendAddress_runsPhase (dev : Addr7) (rw : Dir) :
    RunsPhase (.sendAddress dev rw) (.addr (addrByte dev rw)) (addrVerdict rw) := ⟨fun _ => rfl, by simp, rfl, rfl⟩

theorem writeByte_runsPhase (val : Byte) : RunsPhase (.writeByte val) (.tx val) txVerdict :=
  ⟨fun _ => rfl, by simp, rfl, rfl⟩

theorem readByteAck_runsPhase : RunsPhase .readByteAck (.rx true) rxAckVerdict := ⟨fun _ => rfl, by simp, rfl, rfl⟩

theorem readByteNack_runsPhase : RunsPhase .readByteNack (.rx false) rxNackVerdict := ⟨fun _ => rfl, by simp, rfl, rfl⟩

/-- A command whose body is known answers it with COUNT = 0 and the byte received. -/
theorem exec_of_body {e : Ended} (hwf : i.wf = true) (hprim : firstSeq i = .prim) (ha : admitted i s = true)
    (hbody : commandBody i s = e) : exec i s = .next e.answerPrimitive := by
  rw [exec_of_admitted hwf ha, hbody]
  cases i with
  | writeRegister | readRegister => cases hprim
  | _ => rfl

/-- A stop seen cleared at sample `k` by the enabled Core (R117, R143). -/
def State.stopSeen (s : State) (k : Nat) (rest : List Config.Answer) : State :=
  { s with
    ctrl := Ctrl.ofByte 0x04#8
    budget := budgetAfter k
    pend := none
    bp := .idle
    lines := .released
    env := rest
    trace := s.trace ++ [.phase .stop .stopCleared] }

/-- A stop not seen cleared by the enabled Core: the request stands (R119, R143). -/
def State.stopUnseen (s : State) (rest : List Config.Answer) : State :=
  { s with
    ctrl := Ctrl.ofByte 0x14#8
    budget := 0#8
    pend := some .stop
    bp := .unknown
    lines := .underCore
    env := rest
    trace := s.trace ++ [.phase .stop .expired] }

theorem stopPhase_eq_stopSeen (hen : s.ctrl.en = true) (henv : s.env = a :: rest) (hseen : seenAt a = some k) :
    stopPhase s = (.ok, s.stopSeen k rest) := by
  rw [stopPhase_seen hen henv hseen]
  obtain ⟨⟨done, aen, sta, sto, en⟩, status⟩ := s
  obtain rfl : en = true := hen
  rfl

theorem stopPhase_eq_stopUnseen (hen : s.ctrl.en = true) (henv : s.env = a :: rest) (hseen : seenAt a = none) :
    stopPhase s = (.timeout, s.stopUnseen rest) := by
  have hans := envAnswer_enabled (s := s.launch .stop) .stop hen henv
  rw [resultOf_unseen hseen] at hans
  simp only [stopPhase, await, hans]
  obtain ⟨⟨done, aen, sta, sto, en⟩, status⟩ := s
  obtain rfl : en = true := hen
  rfl

/-! ### The command with that phase -/

section
variable (hi : RunsPhase i ph verdict) (ha : admitted i s = true) (hen : s.ctrl.en = true) (henv : s.env = a :: rest)
  (hseen : seenAt a = some k)
include hi ha hen henv hseen

theorem RunsPhase.exec_success {w : Word} (hv : verdict (codeOf a) = .success bp)
    (hw : responseWord (.outcome .ok) 0#8 (if ph.isRx then a.data else 0#8) = w) :
    AnswersAs (exec i s) (answered { s.seenBy ph a k rest with bp := bp } w) := by
  have hbody := runPhase_success (s := s.setSeq .prim) hi.noStop hen henv hseen hv
  rw [← hi.body, answeredBy_eq_seenBy (s := s.setSeq .prim) hi.noStop hen] at hbody
  subst hw
  exact ⟨.underCore, exec_of_body hi.wf hi.prim ha hbody⟩

/-- A failure answers its status, after its recovery (R148). -/
theorem RunsPhase.exec_failure (hv : verdict (codeOf a) = .failure r) :
    exec i s = .next (answered (recover r ((s.setSeq .prim).seenBy ph a k rest)) (statusWord (codeOf a))) := by
  have hbody := runPhase_failure (s := s.setSeq .prim) hi.noStop hen henv hseen hv
  rw [← hi.body, answeredBy_eq_seenBy (s := s.setSeq .prim) hi.noStop hen] at hbody
  exact exec_of_body hi.wf hi.prim ha hbody

theorem RunsPhase.exec_leave (hv : verdict (codeOf a) = .failure .leave) :
    AnswersAs (exec i s) (answered { s.seenBy ph a k rest with bp := .unknown } (statusWord (codeOf a))) :=
  ⟨.underCore, hi.exec_failure ha hen henv hseen hv⟩

theorem RunsPhase.exec_release (hv : verdict (codeOf a) = .failure .release) :
    AnswersAs (exec i s) (answered { s.seenBy ph a k rest with
      ctrl := Ctrl.ofByte 0x04#8, bp := .idle, trace := (s.seenBy ph a k rest).trace ++ [.release] }
      (statusWord (codeOf a))) :=
  ⟨.released, hi.exec_failure ha hen henv hseen hv⟩

/-- The recovery stop is cleared; the status is the outcome all the same (R203). -/
theorem RunsPhase.exec_stop_seen (hv : verdict (codeOf a) = .failure .stop) (hrest : rest = a2 :: rest2)
    (hseen2 : seenAt a2 = some k2) :
    AnswersAs (exec i s) (answered ((s.seenBy ph a k rest).stopSeen k2 rest2) (statusWord (codeOf a))) := by
  have hexec := hi.exec_failure ha hen henv hseen hv
  rw [recover, stopPhase_eq_stopSeen rfl hrest hseen2] at hexec
  exact ⟨.released, hexec⟩

/-- The recovery stop expires; the status is the outcome all the same (R203). -/
theorem RunsPhase.exec_stop_unseen (hv : verdict (codeOf a) = .failure .stop) (hrest : rest = a2 :: rest2)
    (hseen2 : seenAt a2 = none) :
    AnswersAs (exec i s) (answered ((s.seenBy ph a k rest).stopUnseen rest2) (statusWord (codeOf a))) := by
  have hexec := hi.exec_failure ha hen henv hseen hv
  rw [recover, stopPhase_eq_stopUnseen rfl hrest hseen2] at hexec
  exact ⟨.underCore, hexec⟩

end

/-- A primitive command whose phase is not seen to end (R119). -/
theorem exec_primitive_unseen (hprim : firstSeq i = .prim) (hwf : i.wf = true) (hph : firstPhase i = some ph)
    (ha : admitted i s = true) (hen : s.ctrl.en = true) (henv : s.env = a :: rest) (hseen : seenAt a = none) :
    AnswersAs (exec i s) (answered { s with
      data := ph.sends.getD s.data
      ctrl := { done := false, aen := ph == .rx true, sta := ph == .start, sto := ph == .stop, en := true }
      budget := 0#8
      pend := some ph
      bp := .unknown
      env := rest
      trace := s.trace ++ [.phase ph .expired] } 0x40000000#32) := by
  refine ⟨linesAtLaunch s, ?_⟩
  rw [exec_unseen hwf ha hph hen henv hseen, State.timedOut, hen]
  cases i with
  | readRegister => cases hprim
  | _ => rfl

/-! ### The obligations -/

/-- Settles O15, by the three verdicts on a start status and the expiry. -/
theorem startEndsAsItsStatusSays : Obligations.StartEndsAsItsStatusSays := by
  unfold Obligations.StartEndsAsItsStatusSays
  intro s a rest hen hbp henv
  have hrun := start_runsPhase
  have ha : admitted .start s = true := admitted_of_startable hbp (by decide)
  refine ⟨fun k hseen => ?_, exec_primitive_unseen (ph := .start) rfl rfl rfl ha hen henv⟩
  have hv := startVerdict_codeOf a
  dsimp only
  split_ifs at hv ⊢ with hsent hlost
  · exact hrun.exec_success ha hen henv hseen hv responseWord_ok
  · have hword : statusWord (codeOf a) = 0x80380000#32 := congrArg statusWord hlost
    exact hword ▸ hrun.exec_release ha hen henv hseen hv
  · exact hrun.exec_leave ha hen henv hseen hv

/-- Settles O16: a stop phase is seen cleared or expires, and no status is read. -/
theorem stopEndsClearedOrExpired : Obligations.StopEndsClearedOrExpired := by
  unfold Obligations.StopEndsClearedOrExpired
  intro s a rest hen hbp henv
  have hlegal : ∀ bp ∈ [BusPhase.tx, .rxLast, .unknown], orderLegal bp .stop = true := by decide
  have ha : admitted .stop s = true := admitted_of_legal rfl (hlegal _ hbp)
  refine ⟨fun k hseen => ⟨.released, ?_⟩, exec_primitive_unseen (ph := .stop) rfl rfl rfl ha hen henv⟩
  rw [exec_of_admitted rfl ha, commandBody, stopBody, runStop,
    stopPhase_eq_stopSeen (s := s.setSeq .prim) hen henv hseen, ← responseWord_ok]
  rfl

/-- Settles O17: an address status is acknowledged in the phase's direction, not acknowledged in either, or neither. -/
theorem sendAddressEndsAsItsStatusSays : Obligations.SendAddressEndsAsItsStatusSays := by
  unfold Obligations.SendAddressEndsAsItsStatusSays
  intro dev rw s a rest hen hbp henv
  have hrun := sendAddress_runsPhase dev rw
  have ha : admitted (.sendAddress dev rw) s = true := admitted_of_legal hbp rfl
  have hv := addrVerdict_codeOf rw a
  refine ⟨fun k hseen => ⟨fun hack => ?_, fun hnack a2 rest2 hrest => ?_, fun hack h20 h48 => ?_⟩,
    exec_primitive_unseen (ph := .addr (addrByte dev rw)) rfl rfl rfl ha hen henv⟩
  · exact hrun.exec_success ha hen henv hseen (hv.trans (if_pos hack)) responseWord_ok
  · have hstop : addrVerdict rw (codeOf a) = .failure .stop := by
      rcases hnack with h | h <;> rw [h] <;> cases rw <;> rfl
    exact ⟨fun _ => hrun.exec_stop_seen ha hen henv hseen hstop hrest,
      hrun.exec_stop_unseen ha hen henv hseen hstop hrest⟩
  · rw [if_neg hack, if_neg (not_or.2 ⟨h20, h48⟩)] at hv
    exact hrun.exec_release ha hen henv hseen hv

/-- Settles O18: the status of a byte sent is acknowledged, not acknowledged, or neither. -/
theorem writeByteEndsAsItsStatusSays : Obligations.WriteByteEndsAsItsStatusSays := by
  unfold Obligations.WriteByteEndsAsItsStatusSays
  intro val s a rest hen hbp henv
  have hrun := writeByte_runsPhase val
  have ha : admitted (.writeByte val) s = true := admitted_of_legal hbp rfl
  have hv := txVerdict_codeOf a
  refine ⟨fun k hseen => ⟨fun hack => ?_, fun hnack a2 rest2 hrest => ?_, fun hack hnack => ?_⟩,
    exec_primitive_unseen (ph := .tx val) rfl rfl rfl ha hen henv⟩
  · exact hrun.exec_success ha hen henv hseen (hv.trans (if_pos hack)) responseWord_ok
  · have hstop : txVerdict (codeOf a) = .failure .stop := by rw [hnack]; rfl
    have hword : statusWord (codeOf a) = 0x80300000#32 := congrArg statusWord hnack
    rw [← hword]
    exact ⟨fun _ => hrun.exec_stop_seen ha hen henv hseen hstop hrest,
      hrun.exec_stop_unseen ha hen henv hseen hstop hrest⟩
  · rw [if_neg hack, if_neg hnack] at hv
    exact hrun.exec_release ha hen henv hseen hv

/-- Settles O19: the byte is taken on the success status `0x50` and the bus released on any other. -/
theorem readByteAckEndsAsItsStatusSays : Obligations.ReadByteAckEndsAsItsStatusSays := by
  unfold Obligations.ReadByteAckEndsAsItsStatusSays
  intro s a rest hen hbp henv
  have hrun := readByteAck_runsPhase
  have ha : admitted .readByteAck s = true := admitted_of_legal hbp rfl
  refine ⟨fun k hseen => ?_, exec_primitive_unseen (ph := .rx true) rfl rfl rfl ha hen henv⟩
  have hv := rxAckVerdict_codeOf a
  dsimp only
  split_ifs at hv ⊢
  · exact hrun.exec_success ha hen henv hseen hv (responseWord_ok_byte a.data)
  · exact hrun.exec_release ha hen henv hseen hv

/-- Settles O20: the byte is taken on the success status `0x58` and the bus released on any other. -/
theorem readByteNackEndsAsItsStatusSays : Obligations.ReadByteNackEndsAsItsStatusSays := by
  unfold Obligations.ReadByteNackEndsAsItsStatusSays
  intro s a rest hen hbp henv
  have hrun := readByteNack_runsPhase
  have ha : admitted .readByteNack s = true := admitted_of_legal hbp rfl
  refine ⟨fun k hseen => ?_, exec_primitive_unseen (ph := .rx false) rfl rfl rfl ha hen henv⟩
  have hv := rxNackVerdict_codeOf a
  dsimp only
  split_ifs at hv ⊢
  · exact hrun.exec_success ha hen henv hseen hv (responseWord_ok_byte a.data)
  · exact hrun.exec_release ha hen henv hseen hv

end Sys2Proof.Machine
end

section
/-!
PROOFS. When a command runs and when it is refused (R149, R150), and what a failed command leaves of the bus (R148,
R178): a statement about the end of a phase and of a stop, carried through the bodies of all commands.
-/

namespace Sys2Proof.Machine

open Safety

variable {s t : State} {i : Instr} {e : Ended} {P : Ended → Prop}

/-! ### The order of commands (R149, R150) -/

theorem admitted_eq_false (hen : s.ctrl.en = true) (h : i.mnemonic ∉ mayFollow s.bp) : admitted i s = false := by
  have hl : orderLegal s.bp i = false := Bool.eq_false_iff.2 (mt (orderLegal_iff s.bp i).1 h)
  simp [admitted, hl, hen]

theorem exec_of_not_admitted (hwf : i.wf = true) (ha : admitted i s = false) :
    exec i s = .refused (.outOfOrder s.bp) := by
  simp [exec_eq_issue hwf, issue, ha]

/-- Settles O27: an enabled controller admits a command exactly where the table of R149 lists it. -/
theorem commandsRunExactlyInTheirOrder : Obligations.CommandsRunExactlyInTheirOrder := by
  unfold Obligations.CommandsRunExactlyInTheirOrder
  intro i s hwf hen
  exact ⟨fun hord => ⟨_, exec_of_admitted hwf (admitted_of_mayFollow hord)⟩,
    fun hord => exec_of_not_admitted hwf (admitted_eq_false hen hord)⟩

/-! ### What holds of the end of every phase holds of the end of every command -/

theorem stepRule_of_ends (hphase : ∀ {ph : Phase} (verdict : Byte → Verdict) (s : State), ph ≠ .stop →
    P (runPhase ph verdict s)) (hstop : ∀ s, P (runStop s)) : StepRule Eq (Both P) where
  outcome := fun he => congrArg Ended.outcome he.1
  state := fun he => congrArg Ended.state he.1
  setSeq := fun q hs => congrArg (·.setSeq q) hs
  phase := by rintro s _ ph verdict hp rfl; exact ⟨rfl, hphase verdict s hp⟩
  stop := by rintro s _ rfl; exact ⟨rfl, hstop s⟩

theorem receiveRule_of_ends (hdone : ∀ s, P { outcome := .ok, rdata := 0#8, state := s }) :
    ReceiveRule Eq (Both P) where
  idx := fun hs => congrArg State.idx hs
  rdata := fun he => congrArg Ended.rdata he.1
  clearIdx := fun hs => congrArg State.clearIdx hs
  storeRx := fun d hs => congrArg (·.storeRx d) hs
  done := by rintro s _ rfl; exact ⟨rfl, hdone s⟩

/-! ### A failure and the bus (R148, R178) -/

/-- The bus is given up and BP tells so, or it is not and BP is UNKNOWN (R178). -/
def BusTold (s : State) : Prop := (s.bp = .idle ∧ busResolved s = true) ∨ (s.bp = .unknown ∧ busResolved s = false)

theorem busResolved_of_event {ev : Event} (h : t.trace = s.trace ++ [ev]) :
    busResolved t = (ev == .release || ev == .phase .stop .stopCleared) := by
  simp only [busResolved, h, List.getLast?_concat]
  split <;> simp_all

theorem expire_unresolved (s : State) (ph : Phase) : busResolved (s.expire ph) = false :=
  (busResolved_of_event (State.expire_trace s ph)).trans (by simp)

theorem completed_unresolved (s u : State) (ph : Phase) : busResolved (s.emit (completedEvent ph u)) = false :=
  (busResolved_of_event (State.emit_trace s _)).trans (by simp [completedEvent])

theorem stopPhase_busTold (s : State) : BusTold (stopPhase s).2 := by
  rcases stopPhase_cases s with ⟨-, k, e, n, -, h⟩ | ⟨e, n, h⟩ <;> rw [h]
  · exact .inl ⟨rfl, busResolved_of_event (s := s) (ev := .phase .stop .stopCleared) rfl⟩
  · exact .inr ⟨rfl, expire_unresolved _ .stop⟩

theorem recover_busTold (r : Recovery) (h : busResolved s = false) : BusTold (recover r s) := by
  cases r with
  | leave => exact .inr ⟨rfl, h⟩
  | stop => exact stopPhase_busTold s
  | release => exact .inl ⟨rfl, busResolved_of_event (s := s) (ev := .release) rfl⟩

/-- A body that has failed tells of the bus; after a `Timeout` it is unresolved (R119). -/
structure FailureTold (e : Ended) : Prop where
  told : e.outcome ≠ .ok → BusTold e.state
  timeout : e.outcome = .timeout → e.state.bp = .unknown

theorem FailureTold.of_ok (h : e.outcome = .ok) : FailureTold e := ⟨fun hne => absurd h hne, by simp [h]⟩

theorem runPhase_failureTold {ph : Phase} (verdict : Byte → Verdict) (s : State) (hp : ph ≠ .stop) :
    FailureTold (runPhase ph verdict s) := by
  rcases runPhase_cases hp verdict s with
    ⟨-, k, code, data, e, n, -, ⟨bp, -, hr⟩ | ⟨r, -, hr⟩⟩ | ⟨e, n, hr⟩ <;> rw [hr]
  · exact .of_ok rfl
  · exact ⟨fun _ => recover_busTold r (completed_unresolved _ _ ph), nofun⟩
  · exact ⟨fun _ => .inr ⟨rfl, expire_unresolved _ ph⟩, fun _ => rfl⟩

theorem runStop_failureTold (s : State) : FailureTold (runStop s) := by
  refine ⟨fun _ => stopPhase_busTold s, fun ht => ?_⟩
  rcases stopPhase_cases s with ⟨-, k, e, n, -, h⟩ | ⟨e, n, h⟩ <;> simp only [runStop, h] at ht ⊢
  · cases ht
  · rfl

theorem commandBody_failureTold (i : Instr) (s : State) : FailureTold (commandBody i s) := by
  by_cases hi : i = .init
  · subst hi
    exact .of_ok rfl
  · have hrule := stepRule_of_ends runPhase_failureTold runStop_failureTold
    exact (hrule.commandBody (fun _ => receiveRule_of_ends fun _ => .of_ok rfl) hi rfl).2

theorem rspTag_answer_timeout (e : Ended) (i : Instr) : rspTag (e.answer i).rsp = 1#2 ↔ e.outcome = .timeout := by
  obtain ⟨htag, -⟩ := responseWord_fields (.outcome e.outcome) (e.count i) (e.shownByte i)
  rw [← tag_eq_one_iff, ← htag]
  rfl

/-- Settles O30: each phase that fails, with its recovery, tells of the bus, and no step follows it. -/
theorem failureLeavesBusResolvedOrUnknown : Obligations.FailureLeavesBusResolvedOrUnknown := by
  unfold Obligations.FailureLeavesBusResolvedOrUnknown
  intro i s t hwf h hne
  rcases exec_next_cases h with ⟨-, -, rfl⟩ | ⟨hbad, -⟩
  · obtain ⟨htold, htimeout⟩ := commandBody_failureTold i s
    exact ⟨htold (mt (rspTag_answer _ i).2 hne), fun htag => htimeout ((rspTag_answer_timeout _ i).1 htag)⟩
  · simp [hwf] at hbad

end Sys2Proof.Machine
end

section
/-!
PROOFS. A word presented to a busy block (R140), and `INIT` (R141).
-/

namespace Sys2Proof.Machine

open Safety

/-- Settles O10: with or without a word the busy Engine does its micro-step. -/
theorem wordWhileBusyHasNoEffect : Obligations.WordWhileBusyHasNoEffect := by
  unfold Obligations.WordWhileBusyHasNoEffect
  intro s w hbusy
  have hdeliver (inp : Input) : step { s with inputs := inp :: s.inputs } = deliver inp (s.beginStep s.inputs) :=
    step_cons rfl
  have hidle : deliver .idle (s.beginStep s.inputs) = tick (s.beginStep s.inputs) := if_pos hbusy
  have hcommand : deliver (.command w) (s.beginStep s.inputs) = tick (s.beginStep s.inputs) := if_pos hbusy
  have haccept : deliver (.accept w) (s.beginStep s.inputs) = tick (s.beginStep s.inputs) := if_pos hbusy
  simp only [hdeliver, hidle, hcommand, haccept, and_self]

/-- Settles O14: `INIT` is admitted in both bus phases, and its body is its one write of every register. -/
theorem initCompletes : Obligations.InitCompletes := by
  unfold Obligations.InitCompletes
  intro s hbp
  have ha : admitted .init s = true := by rcases hbp with hbp | hbp <;> exact admitted_of_legal hbp rfl
  refine ⟨.released, ?_⟩
  rw [exec_of_admitted rfl ha, ← responseWord_ok]
  rfl

end Sys2Proof.Machine
end

section
/-!
PROOFS. Failures that leave the bus unresolved (R178): what each of the three kinds answers wherever it happens, and a
script that makes it happen to the controller that `INIT` has enabled after reset.
-/

namespace Sys2Proof.Machine

open Safety

variable {s t : State} {a a0 a1 a2 : Config.Answer} {rest : List Config.Answer} {i : Instr} {k k0 k1 : Nat}

theorem rspTag_statusWord (c : Byte) : rspTag (statusWord c) = 2#2 :=
  (responseWord_fields (.outcome (.hardwareStatus c)) 0#8 0#8).1

/-- Of the two cases of R178, BP UNKNOWN tells that the bus is not resolved. -/
theorem unresolved_of_unknown (hwf : i.wf = true) (h : exec i s = .next t) (htag : rspTag t.rsp ≠ 0#2)
    (hbp : t.bp = .unknown) : busResolved t = false := by
  obtain ⟨⟨hidle, -⟩ | ⟨-, hunresolved⟩, -⟩ := failureLeavesBusResolvedOrUnknown i s t hwf h htag
  · simp [hbp] at hidle
  · exact hunresolved

theorem unresolved_of_statusWord {c : Byte} (hwf : i.wf = true) (h : exec i s = .next t) (hrsp : t.rsp = statusWord c)
    (hbp : t.bp = .unknown) : busResolved t = false :=
  unresolved_of_unknown hwf h (by rw [hrsp, rspTag_statusWord]; decide) hbp

/-! ### The three kinds -/

section
variable (hen : s.ctrl.en = true) (hord : s.bp ∈ [BusPhase.idle, .tx, .rxLast, .unknown])
include hen hord

/-- A start that is not seen (R119). -/
theorem start_timeout_unresolved (henv : s.env = a :: rest) (hseen : seenAt a = none) :
    ∃ t, exec .start s = .next t ∧ rspTag t.rsp = 1#2 ∧ busResolved t = false := by
  have hexec := exec_unseen (i := .start) rfl (admitted_of_startable hord (by decide)) rfl hen henv hseen
  have htag : rspTag (s.timedOut .start .start rest).rsp = 1#2 := (by decide : rspTag 0x40000000#32 = 1#2)
  exact ⟨_, hexec, htag, unresolved_of_unknown rfl hexec (by rw [htag]; decide) rfl⟩

/-- A start whose status is outside the three of R142: the Engine leaves the Core as it stands, DONE and STA still set. -/
theorem start_otherStatus_unresolved (henv : s.env = a :: rest) (hseen : seenAt a = some k)
    (hother : codeOf a ∉ [0x08#8, 0x10#8, 0x38#8]) :
    ∃ t, exec .start s = .next t ∧ t.rsp = statusWord (codeOf a) ∧ t.ctrl.byte = 0xA4#8 ∧ busResolved t = false := by
  have hv : startVerdict (codeOf a) = .failure .leave := by
    simp only [List.mem_cons, List.not_mem_nil, or_false, not_or] at hother
    obtain ⟨h08, h10, h38⟩ := hother
    rw [startVerdict_codeOf, if_neg (not_or.2 ⟨h08, h10⟩), if_neg h38]
  have hexec := start_runsPhase.exec_failure (admitted_of_startable hord (by decide)) hen henv hseen hv
  have hctrl : (Ctrl.mk true false true false true).byte = 0xA4#8 := by decide
  exact ⟨_, hexec, rfl, hctrl, unresolved_of_statusWord rfl hexec rfl rfl⟩

/-- A register write whose address is not acknowledged and whose recovery stop is not seen cleared: the status is the
outcome all the same (R203). -/
theorem writeRegister_recovery_unresolved (dev : Addr7) (reg val : Byte) (henv : s.env = a0 :: a1 :: a2 :: rest)
    (hseen0 : seenAt a0 = some k0) (hseen1 : seenAt a1 = some k1) (hseen2 : seenAt a2 = none)
    (h0 : codeOf a0 = 0x08#8 ∨ codeOf a0 = 0x10#8) (h1 : codeOf a1 = 0x20#8) :
    ∃ t, exec (.writeRegister dev reg val) s = .next t ∧ t.rsp = 0x80200000#32 ∧ t.bp = .unknown ∧
      busResolved t = false := by
  have hv1 : addrVerdict .write (codeOf a1) = .failure .stop := by rw [h1]; rfl
  have hword : statusWord (codeOf a1) = 0x80200000#32 := congrArg statusWord h1
  have hexec := exec_of_admitted (i := .writeRegister dev reg val) rfl
    (admitted_of_startable hord (by simp [Instr.mnemonic]))
  have hstart := runPhase_success (s := s.setSeq .w0) (ph := .start) (by simp) hen henv hseen0 (startVerdict_sent h0)
  rw [commandBody, writeRegisterBody, startBody, hstart, Ended.andThen_ok, sendAddressBody,
    runPhase_failure (ph := .addr (addrByte dev .write)) (by simp) (by exact hen) rfl hseen1 hv1,
    Ended.andThen_hardwareStatus, recover, stopPhase_eq_stopUnseen (by exact hen) rfl hseen2] at hexec
  exact ⟨_, hexec, hword, rfl, unresolved_of_statusWord rfl hexec rfl rfl⟩

end

/-! ### A script for each kind -/

/-- The controller that `INIT` has enabled after reset (R141), with a script of answers. -/
def State.initialised (env : List Config.Answer) : State := (initBody { State.reset with env := env }).state

theorem State.initialised_startable (env : List Config.Answer) :
    (State.initialised env).bp ∈ [BusPhase.idle, .tx, .rxLast, .unknown] := List.mem_cons_self

/-- The answer of a phase that never ends (R78). -/
def unanswered : Config.Answer := { delay := none, code := 0#5, data := 0#8 }

/-- The answer of a phase that has ended by the first sample, STATUS bits 7:3 at `code` (R78). -/
def answeredAtOnce (code : BitVec 5) : Config.Answer := { delay := some 0, code := code, data := 0#8 }

theorem seenAt_unanswered : seenAt unanswered = none := by decide

theorem seenAt_answeredAtOnce (code : BitVec 5) : seenAt (answeredAtOnce code) = some 0 := rfl

/-- Settles O31: a start that is never answered; a start answered `0x28`, the status of a data byte; an address answered
`0x20` with a recovery stop that is never answered. -/
theorem unresolvedFailuresExist : Obligations.UnresolvedFailuresExist := by
  unfold Obligations.UnresolvedFailuresExist
  refine ⟨⟨.initialised [unanswered], ?timeout⟩, ⟨.initialised [answeredAtOnce 0x05#5], ?otherStatus⟩,
    ⟨.initialised [answeredAtOnce 0x01#5, answeredAtOnce 0x04#5, unanswered], ?recovery⟩⟩
  case timeout => exact start_timeout_unresolved rfl (State.initialised_startable _) rfl seenAt_unanswered
  case otherStatus =>
    exact start_otherStatus_unresolved rfl (State.initialised_startable _) rfl (seenAt_answeredAtOnce 0x05#5) (by decide)
  case recovery =>
    exact writeRegister_recovery_unresolved rfl (State.initialised_startable _) 0x62 0x00 0x04 rfl
      (seenAt_answeredAtOnce 0x01#5) (seenAt_answeredAtOnce 0x04#5) seenAt_unanswered (.inl rfl) rfl

end Sys2Proof.Machine
end

section
/-!
PROOFS. A reset at any moment (R220, R221).
-/

namespace Sys2Proof.Machine

/-- What `rst` leaves, whatever the state it finds: no register but the receive buffer outlives it (R220, R221). -/
theorem step_reset {s : State} {rest : List Input} (hin : s.inputs = .reset :: rest) :
    step s = .next (State.afterReset (s.draws + 1) s.rxbuf rest s.env) :=
  step_cons hin

/-- Settles O13: the step ends in `State.afterReset`, as power-on does, but with the receive buffer it found. -/
theorem resetAtAnyMoment : Obligations.ResetAtAnyMoment := by
  unfold Obligations.ResetAtAnyMoment
  intro s rest hin
  obtain ⟨hctrl, -⟩ := resetValues
  exact ⟨_, step_reset hin, hctrl, rfl, rfl, rfl, rfl, rfl, rfl, rfl, rfl, rfl, rfl, rfl, rfl⟩

end Sys2Proof.Machine
end
